-- ==== Sys2Proof/Word.lean ====
section
/-! DEFINITION. The two widths of the machine: the byte and the word, which the source calls a short
(spec/00_scope.md R4, R5). -/

namespace Sys2Proof

/-- A byte, 8 bits (00_scope.md R4). -/
abbrev Byte := BitVec 8

/-- A word, 16 bits: an address, the program counter, or an item of short mode (00_scope.md R4). -/
abbrev Word := BitVec 16

end Sys2Proof
end

