-- ==== Sys2Proof/Fields.lean ====
section
/-! DEFINITION. The fields of an opcode byte: the base operation and the three mode flags
(spec/30_encoding.md R71, R73). -/

namespace Sys2Proof

/-- The 32 base operations, in the order of their numbers 0 to 31 (30_encoding.md R73, decision D1). -/
inductive Base where
  | lit | inc | pop | dup | nip | swp | ovr | rot
  | equ | neq | gth | lth | jmp | jcn | jsr | sth
  | ldz | stz | ldr | str | lda | sta | dei | deo
  | add | sub | mul | div | and | ora | eor | sft
  deriving DecidableEq, Repr

/-- The three mode flags of an opcode byte (30_encoding.md R71). They are parameters of one
instruction and no part of the state (10_state.md R24). -/
structure Mode where
  /-- Bit 5, `s`: the operand width is 16 bits. -/
  short : Bool
  /-- Bit 6, `r`: the active stack is the return stack. -/
  ret : Bool
  /-- Bit 7, `k`: the pops of this instruction remove nothing. -/
  keep : Bool
  deriving DecidableEq, Repr

end Sys2Proof
end

