-- ==== Sys2Proof/Machine/Bytes.lean ====
section
/-! DEFINITION. Byte order and widening: the one place that says how a word is made of bytes
(spec/20_memory.md R45, spec/00_scope.md R5). -/

namespace Sys2Proof.Machine

/-- `hi : lo`, the word whose high byte is `hi` (00_scope.md R5). -/
def wordOf (hi lo : Byte) : Word := hi ++ lo

/-- `v[15:8]` (00_scope.md R5). -/
def hiByte (v : Word) : Byte := v.extractLsb' 8 8

/-- `v[7:0]` (00_scope.md R5). -/
def loByte (v : Word) : Byte := v.extractLsb' 0 8

/-- A byte as the unsigned number it is, in a word (00_scope.md R5). -/
def zeroExtend (b : Byte) : Word := b.setWidth 16

/-- `sext8(b)`, the byte as a two's-complement number, in a word (00_scope.md R5). -/
def signExtend8 (b : Byte) : Word := b.signExtend 16

end Sys2Proof.Machine
end

