-- ==== Sys2Proof/Transactions.lean ====
section
/-! DEFINITION. The host's transactions as data: what the host can ask of the core
(spec/60_exceptions.md R196). What each does is in Machine/HostSide.lean. -/

namespace Sys2Proof

/-- A transaction the host issues (60_exceptions.md R196). The hooks of R52 and R53 are no transactions:
the core calls them inside DEI and DEO. Observing the state (R196, decision D21) changes nothing and needs
no constructor. -/
inductive HostCommand where
  /-- `Reset`, the source's machine construction, legal in every state (70_reset_and_hazards.md R210). If the
  core runs, the host lets `after` more steps of the run pass first; else it resets at once. DESIGN CHOICE (log
  entry 8): the spec leaves open when a host resets, so a claim ranges over `after`. -/
  | reset (after : Nat)
  /-- `LoadImage(img)` (20_memory.md R48). -/
  | loadImage (img : List Byte)
  /-- `Run(a)` (60_exceptions.md R190). -/
  | run (a : Word)
  /-- `InjectEvent(d, payload)`: an event of device slot `d`, its payload the device addresses and the
  bytes to store there, in order (60_exceptions.md R191). -/
  | injectEvent (d : BitVec 4) (payload : List (Byte × Byte))
  deriving DecidableEq, Repr

end Sys2Proof
end

