-- ==== Sys2Proof/Machine/State.lean ====
section
/-! DEFINITION. The state of the machine as plain data, and its value after reset (spec/10_state.md R10,
R32). The first part of State is the core's; the last four fields are the host's side, which a program can
observe (R30). -/

namespace Sys2Proof.Machine

/-- Which of the two stacks (10_state.md R10): the working stack or the return stack. -/
inductive StackId where
  | wst
  | rst
  deriving DecidableEq, Repr

/-- The three faults of the machine, with the stack whose push or pop failed (60_exceptions.md R180,
decision D18). -/
inductive Cause where
  /-- `StackOverflow(S)` (60_exceptions.md R181). -/
  | stackOverflow (S : StackId)
  /-- `StackUnderflow(S)` (60_exceptions.md R182). -/
  | stackUnderflow (S : StackId)
  /-- `DivisionByZero` (60_exceptions.md R183). -/
  | divisionByZero
  deriving DecidableEq, Repr

/-- `status` (10_state.md R23). -/
inductive Status where
  | running
  | halted
  | faulted (c : Cause)
  deriving DecidableEq, Repr

/-- Which host was injected when the machine was built (20_memory.md R55, decision D23). -/
inductive Binding where
  /-- The reference host, REF. -/
  | reference
  /-- Any other host; its hooks are the opaque `Config.hostRead` and `Config.hostWrite`. -/
  | other
  deriving DecidableEq, Repr

/-- A byte-addressed memory: (address, byte) pairs, the addresses strictly rising and no byte 0. An address
that is not listed reads as 0x00, the reset content of 10_state.md R32. The same type holds `mem`, `dev` and
the storage of a stack. -/
abbrev Memory := List Host.Cell

/-- One bounded stack (10_state.md R10 to R14). -/
structure Stack where
  /-- `S.dat`, 256 bytes by index (R11). -/
  dat : Memory
  /-- `S.ptr`, the number of occupied bytes, 0 to 255 (R12). -/
  ptr : Nat
  /-- `S.kc`, the keep cursor, read only while `keep` is set (R13). -/
  kc : Nat
  /-- `S.keep`, the keep-mode mark (R14). -/
  keep : Bool
  deriving DecidableEq, Repr

/-- The state of the machine (10_state.md R10, R30). -/
structure State where
  /-- The working stack. -/
  wst : Stack
  /-- The return stack. -/
  rst : Stack
  /-- Linear memory, 65,536 bytes (R26). -/
  mem : Memory
  /-- The device bus surface, 256 bytes (R27, R28). -/
  dev : Memory
  /-- The program counter (R21, R22). -/
  pc : Word
  /-- Running, halted or faulted (R23). -/
  status : Status
  /-- The reference host's console output so far, oldest byte first (R30(a)). -/
  out : List Byte
  /-- Which host drives the machine; no step changes it (20_memory.md R55). -/
  binding : Binding
  /-- The state of a host other than the reference one (20_memory.md R55). -/
  hostState : Nat
  /-- The transactions the host has yet to issue, oldest first (R30(b)). DESIGN CHOICE (log entry 7): the spec
  lets EVENTS be a finite or an infinite sequence (92_eei_decisions.md D22); this list is finite, so an
  infinite sequence stands only by its finite prefixes. -/
  pending : List HostCommand
  deriving DecidableEq, Repr

/-- Why a step stops with a fault. -/
inductive Fault where
  /-- Raised by `step` when it is asked to go on from `status = FAULTED(c)` and the host's next transaction
  is not a Reset: that state is terminal (60_exceptions.md R185). The fault itself was taken, as a next
  state, by the instruction that raised it (R184). Safe: the spec gives no step there. -/
  | terminal (c : Cause)
  deriving DecidableEq, Repr

/-- Why a step is refused. -/
inductive Refusal where
  /-- Raised by an arm of `exec` that gives its instruction no meaning; no arm does. Safe. -/
  | notModelled (mnemonic : String)
  /-- Raised by the transaction LoadImage for an image that does not fit above the origin
  (20_memory.md R48, decision D20: refused). Safe. -/
  | imageTooLong (length : Nat)
  /-- Raised by the transactions LoadImage, Run and InjectEvent when `status` is not HALTED
  (60_exceptions.md R196, decision D17: not legal). Safe. -/
  | transactionNotLegal
  deriving DecidableEq, Repr

/-- An empty stack: pointer 0, not in keep mode (10_state.md R32). The storage bytes and the keep cursor are
unspecified by R32 and never read; DESIGN CHOICE: 0 (log entries 2 and 3). -/
def Stack.empty : Stack := { dat := [], ptr := 0, kc := 0, keep := false }

/-- The machine right after reset (10_state.md R32, 70_reset_and_hazards.md R210): empty stacks, `mem` and
`dev` all 0x00, HALTED, no output. DESIGN CHOICE: `pc`, unspecified by R32, is 0 (log entry 1); the host is
the reference one and its list of transactions is empty (log entries 7 and 9). -/
def State.reset : State :=
  { wst := Stack.empty, rst := Stack.empty, mem := [], dev := [], pc := 0, status := .halted,
    out := [], binding := .reference, hostState := 0, pending := [] }

end Sys2Proof.Machine
end

