-- ==== Sys2Proof/Machine/Flags.lean ====
section
/-! DEFINITION. What the three mode flags choose (spec/40_step_break_literal.md R91, R92). The machine has
no condition codes, so no instruction computes one (spec/10_state.md R25). -/

namespace Sys2Proof

/-- `src`, the active stack (40_step_break_literal.md R91). -/
def Mode.src (m : Mode) : Machine.StackId := if m.ret then .rst else .wst

/-- `dst`, the companion stack (40_step_break_literal.md R91). -/
def Mode.dst (m : Mode) : Machine.StackId := if m.ret then .wst else .rst

/-- `n`, the operand width in bytes (40_step_break_literal.md R92). -/
def Mode.width (m : Mode) : Nat := if m.short then 2 else 1

/-- `trunc(v)`: the low byte in byte mode, the low word in short mode (40_step_break_literal.md R92, decision
D2). An item is held in a word; in byte mode its high byte is 0. -/
def Mode.trunc (m : Mode) (v : Word) : Word := if m.short then v else Machine.zeroExtend (Machine.loByte v)

end Sys2Proof
end

