-- ==== Sys2Proof/Config.lean ====
section
/-! DEFINITION. What is fixed for one machine and left open by the spec: the hooks of a host other than
the reference one, the parameter HOST (spec/20_memory.md R55, spec/92_eei_decisions.md D23). They have no
body, so nothing can be proved of their values. -/

namespace Sys2Proof

/-- DESIGN CHOICE (log entry 9). `HOST.onRead` of a host other than the reference one: from the host's
state, the device surface and the device address, the host's next state and the byte the read returns
(20_memory.md R55). A free value: no body. -/
opaque Config.hostRead : Nat → List Host.Cell → Byte → Nat × Byte

/-- DESIGN CHOICE (log entry 9). `HOST.onWrite` of a host other than the reference one: from the host's
state, the device surface with the byte already stored (decision D8), the device address and the byte, the
host's next state (20_memory.md R55). A free value: no body. -/
opaque Config.hostWrite : Nat → List Host.Cell → Byte → Byte → Nat

end Sys2Proof
end

