-- ==== Sys2Proof/Machine/Params.lean ====
section
/-! DEFINITION. The fixed sizes, counts and addresses of the machine (spec/00_scope.md R4). -/

namespace Sys2Proof.Machine

/-- MEM_SIZE, the bytes of linear memory (00_scope.md R4). -/
def memSize : Nat := 65536

/-- DEV_SIZE, the bytes of the device bus (00_scope.md R4). -/
def devSize : Nat := 256

/-- STACK_MAX_DEPTH, the largest value of a stack pointer (00_scope.md R4, conflict C1). -/
def stackMaxDepth : Nat := 255

/-- IMAGE_ORIGIN, where an image is loaded and by convention started (00_scope.md R4, 20_memory.md R48,
70_reset_and_hazards.md R212). -/
def imageOrigin : Word := 0x0100

/-- The most bytes an image can have, 0x10000 - 0x0100 (20_memory.md R48, decision D20). -/
def imageMaxLength : Nat := 65280

/-- CONSOLE_VECTOR's high byte; the low byte is at the next address (10_state.md R28). -/
def consoleVector : Byte := 0x10

/-- CONSOLE_IN (10_state.md R28, conflict C3). -/
def consoleIn : Byte := 0x12

/-- CONSOLE_OUT (10_state.md R28, conflict C2). -/
def consoleOut : Byte := 0x18

end Sys2Proof.Machine
end

