-- ==== Sys2Proof/Machine/Ops.lean ====
section
/-! DEFINITION. The primitives of the machine: memory, the stack unit, the device bus, the halt, and taking
a fault (spec/10_state.md R16 to R20, spec/20_memory.md R41 to R55, spec/60_exceptions.md R184). -/

namespace Sys2Proof.Machine

/-! ### A memory of cells -/

/-- The byte at an address; an address that is not listed holds 0x00 (10_state.md R32). -/
def Memory.read : Memory → Nat → Byte
  | [], _ => 0
  | (b, v) :: rest, a => if a = b then v else Memory.read rest a

/-- The memory without the cell of an address. -/
def Memory.erase (m : Memory) (a : Nat) : Memory := m.filter fun c => c.1 ≠ a

/-- The memory with a cell put in its place by address. -/
def Memory.insert : Memory → Nat → Byte → Memory
  | [], a, v => [(a, v)]
  | (b, w) :: rest, a, v =>
    if a < b then (a, v) :: (b, w) :: rest
    else if a = b then (a, v) :: rest
    else (b, w) :: Memory.insert rest a v

/-- The memory with one byte written; writing what an unlisted address reads as removes the cell. -/
def Memory.write (m : Memory) (a : Nat) (v : Byte) : Memory :=
  if v = 0 then Memory.erase m a else Memory.insert m a v

/-- The canonical form: addresses strictly rising, no cell holding 0x00. -/
abbrev Memory.wf (m : Memory) : Prop :=
  m.Pairwise (fun c d => c.1 < d.1) ∧ ∀ c ∈ m, c.2 ≠ 0

/-- Every cell's address lies below `n`. -/
abbrev Memory.within (m : Memory) (n : Nat) : Prop := ∀ c ∈ m, c.1 < n

/-! ### One bounded stack -/

/-- `Push8` on one stack; `none` is overflow, with nothing written (10_state.md R16). Keep mode does not
change a push. -/
def Stack.push8 (S : Stack) (v : Byte) : Option Stack :=
  if stackMaxDepth < S.ptr + 1 then none
  else some { S with dat := Memory.write S.dat S.ptr v, ptr := S.ptr + 1 }

/-- `Push16` on one stack, the high byte deeper; `none` is overflow, with neither byte written
(10_state.md R17). -/
def Stack.push16 (S : Stack) (v : Word) : Option Stack :=
  if stackMaxDepth < S.ptr + 2 then none
  else some { S with
    dat := Memory.write (Memory.write S.dat S.ptr (hiByte v)) (S.ptr + 1) (loByte v), ptr := S.ptr + 2 }

/-- `Pop8` on one stack, through the keep cursor in keep mode; `none` is underflow (10_state.md R18). -/
def Stack.pop8 (S : Stack) : Option (Byte × Stack) :=
  if S.keep then
    if S.kc < 1 then none else some (Memory.read S.dat (S.kc - 1), { S with kc := S.kc - 1 })
  else
    if S.ptr < 1 then none else some (Memory.read S.dat (S.ptr - 1), { S with ptr := S.ptr - 1 })

/-- `Pop16` on one stack; `none` is underflow, with nothing removed (10_state.md R19). -/
def Stack.pop16 (S : Stack) : Option (Word × Stack) :=
  if S.keep then
    if S.kc < 2 then none
    else some (wordOf (Memory.read S.dat (S.kc - 2)) (Memory.read S.dat (S.kc - 1)), { S with kc := S.kc - 2 })
  else
    if S.ptr < 2 then none
    else some (wordOf (Memory.read S.dat (S.ptr - 2)) (Memory.read S.dat (S.ptr - 1)), { S with ptr := S.ptr - 2 })

/-- `EnterKeep` on one stack (10_state.md R20). -/
def Stack.enterKeep (S : Stack) : Stack := { S with kc := S.ptr, keep := true }

/-- The end of keep mode on one stack (10_state.md R20). -/
def Stack.leaveKeep (S : Stack) : Stack := { S with keep := false }

/-! ### The state's parts -/

/-- The stack of a name (10_state.md R10). -/
def State.stack (s : State) : StackId → Stack
  | .wst => s.wst
  | .rst => s.rst

/-- The state with one stack replaced. -/
def State.setStack (s : State) (id : StackId) (S : Stack) : State :=
  match id with
  | .wst => { s with wst := S }
  | .rst => { s with rst := S }

/-- `EnterKeep(S)` (10_state.md R20). -/
def State.enterKeep (s : State) (id : StackId) : State := s.setStack id (s.stack id).enterKeep

/-- `ClearKeep()` (10_state.md R20). -/
def State.clearKeep (s : State) : State := { s with wst := s.wst.leaveKeep, rst := s.rst.leaveKeep }

/-- The state with the program counter moved on by `n`, modulo 65536 (10_state.md R21). -/
def State.advance (s : State) (n : Word) : State := { s with pc := s.pc + n }

/-- `status <- HALTED`; nothing else changes (40_step_break_literal.md R90, R94). -/
def State.halt (s : State) : State := { s with status := .halted }

/-- TAKING A FAULT, for every cause and every instruction: keep mode ends and the status records the cause;
everything the instruction did before stays (60_exceptions.md R184). Nothing is saved and no handler is
entered, and there is no return from a fault: FAULTED is terminal (R185). -/
def State.takeFault (s : State) (c : Cause) : State := { s.clearKeep with status := .faulted c }

/-! ### Linear memory -/

/-- `MemRead(a, 1)` (20_memory.md R41). -/
def State.memRead8 (s : State) (a : Word) : Byte := Memory.read s.mem a.toNat

/-- `MemRead(a, 2)`, big-endian, the second address wrapping (20_memory.md R42). -/
def State.memRead16 (s : State) (a : Word) : Word := wordOf (s.memRead8 a) (s.memRead8 (a + 1))

/-- `MemWrite(a, 1, v)` (20_memory.md R43). -/
def State.memWrite8 (s : State) (a : Word) (v : Byte) : State :=
  { s with mem := Memory.write s.mem a.toNat v }

/-- `MemWrite(a, 2, v)`, big-endian, the second address wrapping (20_memory.md R44). -/
def State.memWrite16 (s : State) (a : Word) (v : Word) : State :=
  (s.memWrite8 a (hiByte v)).memWrite8 (a + 1) (loByte v)

/-! ### The device bus -/

/-- The raw byte of the device surface, with no hook called (20_memory.md R54, decision D13). -/
def State.devByte (s : State) (a : Byte) : Byte := Memory.read s.dev a.toNat

/-- A raw store to the device surface, with no hook called (60_exceptions.md R191, decision D13). -/
def State.setDevByte (s : State) (a v : Byte) : State := { s with dev := Memory.write s.dev a.toNat v }

/-- `HOST.onRead`: the reference host answers with the stored byte and changes nothing; another host is
`Config.hostRead` (20_memory.md R55). -/
def State.onRead (s : State) (a : Byte) : Byte × State :=
  match s.binding with
  | .reference => (s.devByte a, s)
  | .other =>
    ((Config.hostRead s.hostState s.dev a).2, { s with hostState := (Config.hostRead s.hostState s.dev a).1 })

/-- `HOST.onWrite`: the reference host appends the byte to the console output if the address is
CONSOLE_OUT; another host is `Config.hostWrite` (20_memory.md R55). -/
def State.onWrite (s : State) (a v : Byte) : State :=
  match s.binding with
  | .reference => if a = consoleOut then { s with out := s.out ++ [v] } else s
  | .other => { s with hostState := Config.hostWrite s.hostState s.dev a v }

/-- `DevRead(a)` (20_memory.md R52, decision D9). -/
def State.devRead (s : State) (a : Byte) : Byte × State := s.onRead a

/-- `DevWrite(a, v)`: the store, then the hook (20_memory.md R53, decision D8). -/
def State.devWrite (s : State) (a v : Byte) : State := (s.setDevByte a v).onWrite a v

/-- `DevVector(a)`: the word at the origin of the slot that holds `a`, a raw read (20_memory.md R54). -/
def State.devVector (s : State) (a : Byte) : Word :=
  wordOf (s.devByte (a &&& 0xF0#8)) (s.devByte ((a &&& 0xF0#8) + 1))

end Sys2Proof.Machine
end

