-- ==== Sys2Proof/Machine/Operands.lean ====
section
/-! DEFINITION. The steps an instruction's body is made of, in the spec's own notation: pops and pushes that
can raise a fault, loads and stores, device accesses and the jump, and the part of the step cycle that is
common to all instructions (spec/30_encoding.md R78, spec/40_step_break_literal.md R91, R92). -/

namespace Sys2Proof.Machine

/-- A piece of an instruction's pseudocode: from a state to a value and the state after it, or to a raised
cause and the state at that point, in which all that was done before stays (60_exceptions.md R184). -/
abbrev Body (α : Type) := EStateM Cause State α

/-- `raise c` (00_scope.md R5). -/
def raise {α : Type} (c : Cause) : Body α := fun s => .error c s

/-- `Push8(S, v)` (10_state.md R16). -/
def push8 (id : StackId) (v : Byte) : Body Unit := fun s =>
  match (s.stack id).push8 v with
  | some S => .ok () (s.setStack id S)
  | none => .error (.stackOverflow id) s

/-- `Push16(S, v)` (10_state.md R17). -/
def push16 (id : StackId) (v : Word) : Body Unit := fun s =>
  match (s.stack id).push16 v with
  | some S => .ok () (s.setStack id S)
  | none => .error (.stackOverflow id) s

/-- `Pop8(S)` (10_state.md R18). -/
def pop8 (id : StackId) : Body Byte := fun s =>
  match (s.stack id).pop8 with
  | some (v, S) => .ok v (s.setStack id S)
  | none => .error (.stackUnderflow id) s

/-- `Pop16(S)` (10_state.md R19). -/
def pop16 (id : StackId) : Body Word := fun s =>
  match (s.stack id).pop16 with
  | some (v, S) => .ok v (s.setStack id S)
  | none => .error (.stackUnderflow id) s

/-- `Pop(S)`, width-aware; a byte is the unsigned number it is (40_step_break_literal.md R92). -/
def pop (m : Mode) (id : StackId) : Body Word :=
  if m.short then pop16 id else do
    let v ← pop8 id
    return zeroExtend v

/-- `Push(S, v)`, width-aware (40_step_break_literal.md R92). -/
def push (m : Mode) (id : StackId) (v : Word) : Body Unit :=
  if m.short then push16 id v else push8 id (loByte v)

/-- The program counter inside a body: the address of the byte after the opcode byte (10_state.md R22). -/
def readPc : Body Word := fun s => .ok s.pc s

/-- `pc <- v` (10_state.md R21). -/
def writePc (v : Word) : Body Unit := fun s => .ok () { s with pc := v }

/-- `Load(a)` = `MemRead(a, n)` (40_step_break_literal.md R92). -/
def load (m : Mode) (a : Word) : Body Word := fun s =>
  .ok (if m.short then s.memRead16 a else zeroExtend (s.memRead8 a)) s

/-- `Store(a, v)` = `MemWrite(a, n, v)` (40_step_break_literal.md R92). -/
def store (m : Mode) (a v : Word) : Body Unit := fun s =>
  .ok () (if m.short then s.memWrite16 a v else s.memWrite8 a (loByte v))

/-- `DevRead(a)` as a step of a body (20_memory.md R52). -/
def readDevice (a : Byte) : Body Byte := fun s => .ok (s.devRead a).1 (s.devRead a).2

/-- `DevWrite(a, v)` as a step of a body (20_memory.md R53). -/
def writeDevice (a v : Byte) : Body Unit := fun s => .ok () (s.devWrite a v)

/-- The effective address of LDZ and STZ (45_memory_access.md R135). -/
def zeroPageAddress (z : Byte) : Word := zeroExtend z

/-- The effective address of LDR and STR: the program counter of the body plus the signed offset, modulo
65536 (45_memory_access.md R135, decision D3). -/
def relativeAddress (pc : Word) (o : Byte) : Word := pc + signExtend8 o

/-- The target of a jump: the item itself in short mode; in byte mode the program counter of the body plus
the signed offset, modulo 65536 (43_control_flow.md R120). -/
def jumpTarget (m : Mode) (pc a : Word) : Word :=
  if m.short then a else pc + signExtend8 (loByte a)

/-- `Jump(a)` (43_control_flow.md R120). -/
def jump (m : Mode) (a : Word) : Body Unit := do
  let pc ← readPc
  writePc (jumpTarget m pc a)

/-- The state in which an instruction's body starts: the program counter past the opcode byte, and keep mode
entered on the active stack if the keep flag is set (40_step_break_literal.md R91). -/
def State.begin (s : State) (m : Mode) : State :=
  if m.keep then (s.advance 1).enterKeep m.src else s.advance 1

/-- The step cycle around a body (40_step_break_literal.md R91): `s` has the program counter at the opcode
byte; keep mode ends when the body ends, and a raised cause becomes the status (60_exceptions.md R184). -/
def runBody (m : Mode) (body : Mode → Body Unit) (s : State) : Host.Outcome State Fault Refusal :=
  match body m (s.begin m) with
  | .ok _ t => .next t.clearKeep
  | .error c t => .next (t.takeFault c)

end Sys2Proof.Machine
end

