-- ==== Sys2Proof/Machine/Arith.lean ====
section
/-! DEFINITION. Arithmetic and bitwise: ADD SUB MUL DIV AND ORA EOR (spec/47_arithmetic_bitwise.md).
First the pseudocode of each base operation, once; then one meaning per instruction, its mode flags in the
order short, return, keep. -/

namespace Sys2Proof.Machine

/-- `Binary(f)`: pop `b`, then `a`; push `f(a, b)` truncated to the width (47_arithmetic_bitwise.md R160). -/
def binary (f : Word → Word → Word) (m : Mode) : Body Unit := do
  let b ← pop m m.src
  let a ← pop m m.src
  push m m.src (m.trunc (f a b))

/-- ADD (47_arithmetic_bitwise.md R161). -/
def bodyAdd : Mode → Body Unit := binary fun a b => a + b

/-- SUB: the minuend is the deeper item (47_arithmetic_bitwise.md R162). -/
def bodySub : Mode → Body Unit := binary fun a b => a - b

/-- MUL: the low half of the product (47_arithmetic_bitwise.md R163). -/
def bodyMul : Mode → Body Unit := binary fun a b => a * b

/-- DIV: the unsigned quotient; a divisor 0 is found after both pops (47_arithmetic_bitwise.md R164, decision
D4). -/
def bodyDiv (m : Mode) : Body Unit := do
  let b ← pop m m.src
  let a ← pop m m.src
  if b = 0 then raise .divisionByZero
  else push m m.src (BitVec.udiv a b)

/-- AND (47_arithmetic_bitwise.md R165). -/
def bodyAnd : Mode → Body Unit := binary fun a b => a &&& b

/-- ORA (47_arithmetic_bitwise.md R166). -/
def bodyOra : Mode → Body Unit := binary fun a b => a ||| b

/-- EOR (47_arithmetic_bitwise.md R167). -/
def bodyEor : Mode → Body Unit := binary fun a b => a ^^^ b

/-- ADD, byte 0x18 (R161). -/
def execAdd (s : State) : Host.Outcome State Fault Refusal := runBody ⟨false, false, false⟩ bodyAdd s

/-- ADD2, byte 0x38 (R161). -/
def execAdd2 (s : State) : Host.Outcome State Fault Refusal := runBody ⟨true, false, false⟩ bodyAdd s

/-- ADDr, byte 0x58 (R161). -/
def execAddr (s : State) : Host.Outcome State Fault Refusal := runBody ⟨false, true, false⟩ bodyAdd s

/-- ADD2r, byte 0x78 (R161). -/
def execAdd2r (s : State) : Host.Outcome State Fault Refusal := runBody ⟨true, true, false⟩ bodyAdd s

/-- ADDk, byte 0x98 (R161). -/
def execAddk (s : State) : Host.Outcome State Fault Refusal := runBody ⟨false, false, true⟩ bodyAdd s

/-- ADD2k, byte 0xB8 (R161). -/
def execAdd2k (s : State) : Host.Outcome State Fault Refusal := runBody ⟨true, false, true⟩ bodyAdd s

/-- ADDkr, byte 0xD8 (R161). -/
def execAddkr (s : State) : Host.Outcome State Fault Refusal := runBody ⟨false, true, true⟩ bodyAdd s

/-- ADD2kr, byte 0xF8 (R161). -/
def execAdd2kr (s : State) : Host.Outcome State Fault Refusal := runBody ⟨true, true, true⟩ bodyAdd s

/-- SUB, byte 0x19 (R162). -/
def execSub (s : State) : Host.Outcome State Fault Refusal := runBody ⟨false, false, false⟩ bodySub s

/-- SUB2, byte 0x39 (R162). -/
def execSub2 (s : State) : Host.Outcome State Fault Refusal := runBody ⟨true, false, false⟩ bodySub s

/-- SUBr, byte 0x59 (R162). -/
def execSubr (s : State) : Host.Outcome State Fault Refusal := runBody ⟨false, true, false⟩ bodySub s

/-- SUB2r, byte 0x79 (R162). -/
def execSub2r (s : State) : Host.Outcome State Fault Refusal := runBody ⟨true, true, false⟩ bodySub s

/-- SUBk, byte 0x99 (R162). -/
def execSubk (s : State) : Host.Outcome State Fault Refusal := runBody ⟨false, false, true⟩ bodySub s

/-- SUB2k, byte 0xB9 (R162). -/
def execSub2k (s : State) : Host.Outcome State Fault Refusal := runBody ⟨true, false, true⟩ bodySub s

/-- SUBkr, byte 0xD9 (R162). -/
def execSubkr (s : State) : Host.Outcome State Fault Refusal := runBody ⟨false, true, true⟩ bodySub s

/-- SUB2kr, byte 0xF9 (R162). -/
def execSub2kr (s : State) : Host.Outcome State Fault Refusal := runBody ⟨true, true, true⟩ bodySub s

/-- MUL, byte 0x1A (R163). -/
def execMul (s : State) : Host.Outcome State Fault Refusal := runBody ⟨false, false, false⟩ bodyMul s

/-- MUL2, byte 0x3A (R163). -/
def execMul2 (s : State) : Host.Outcome State Fault Refusal := runBody ⟨true, false, false⟩ bodyMul s

/-- MULr, byte 0x5A (R163). -/
def execMulr (s : State) : Host.Outcome State Fault Refusal := runBody ⟨false, true, false⟩ bodyMul s

/-- MUL2r, byte 0x7A (R163). -/
def execMul2r (s : State) : Host.Outcome State Fault Refusal := runBody ⟨true, true, false⟩ bodyMul s

/-- MULk, byte 0x9A (R163). -/
def execMulk (s : State) : Host.Outcome State Fault Refusal := runBody ⟨false, false, true⟩ bodyMul s

/-- MUL2k, byte 0xBA (R163). -/
def execMul2k (s : State) : Host.Outcome State Fault Refusal := runBody ⟨true, false, true⟩ bodyMul s

/-- MULkr, byte 0xDA (R163). -/
def execMulkr (s : State) : Host.Outcome State Fault Refusal := runBody ⟨false, true, true⟩ bodyMul s

/-- MUL2kr, byte 0xFA (R163). -/
def execMul2kr (s : State) : Host.Outcome State Fault Refusal := runBody ⟨true, true, true⟩ bodyMul s

/-- DIV, byte 0x1B (R164). -/
def execDiv (s : State) : Host.Outcome State Fault Refusal := runBody ⟨false, false, false⟩ bodyDiv s

/-- DIV2, byte 0x3B (R164). -/
def execDiv2 (s : State) : Host.Outcome State Fault Refusal := runBody ⟨true, false, false⟩ bodyDiv s

/-- DIVr, byte 0x5B (R164). -/
def execDivr (s : State) : Host.Outcome State Fault Refusal := runBody ⟨false, true, false⟩ bodyDiv s

/-- DIV2r, byte 0x7B (R164). -/
def execDiv2r (s : State) : Host.Outcome State Fault Refusal := runBody ⟨true, true, false⟩ bodyDiv s

/-- DIVk, byte 0x9B (R164). -/
def execDivk (s : State) : Host.Outcome State Fault Refusal := runBody ⟨false, false, true⟩ bodyDiv s

/-- DIV2k, byte 0xBB (R164). -/
def execDiv2k (s : State) : Host.Outcome State Fault Refusal := runBody ⟨true, false, true⟩ bodyDiv s

/-- DIVkr, byte 0xDB (R164). -/
def execDivkr (s : State) : Host.Outcome State Fault Refusal := runBody ⟨false, true, true⟩ bodyDiv s

/-- DIV2kr, byte 0xFB (R164). -/
def execDiv2kr (s : State) : Host.Outcome State Fault Refusal := runBody ⟨true, true, true⟩ bodyDiv s

/-- AND, byte 0x1C (R165). -/
def execAnd (s : State) : Host.Outcome State Fault Refusal := runBody ⟨false, false, false⟩ bodyAnd s

/-- AND2, byte 0x3C (R165). -/
def execAnd2 (s : State) : Host.Outcome State Fault Refusal := runBody ⟨true, false, false⟩ bodyAnd s

/-- ANDr, byte 0x5C (R165). -/
def execAndr (s : State) : Host.Outcome State Fault Refusal := runBody ⟨false, true, false⟩ bodyAnd s

/-- AND2r, byte 0x7C (R165). -/
def execAnd2r (s : State) : Host.Outcome State Fault Refusal := runBody ⟨true, true, false⟩ bodyAnd s

/-- ANDk, byte 0x9C (R165). -/
def execAndk (s : State) : Host.Outcome State Fault Refusal := runBody ⟨false, false, true⟩ bodyAnd s

/-- AND2k, byte 0xBC (R165). -/
def execAnd2k (s : State) : Host.Outcome State Fault Refusal := runBody ⟨true, false, true⟩ bodyAnd s

/-- ANDkr, byte 0xDC (R165). -/
def execAndkr (s : State) : Host.Outcome State Fault Refusal := runBody ⟨false, true, true⟩ bodyAnd s

/-- AND2kr, byte 0xFC (R165). -/
def execAnd2kr (s : State) : Host.Outcome State Fault Refusal := runBody ⟨true, true, true⟩ bodyAnd s

/-- ORA, byte 0x1D (R166). -/
def execOra (s : State) : Host.Outcome State Fault Refusal := runBody ⟨false, false, false⟩ bodyOra s

/-- ORA2, byte 0x3D (R166). -/
def execOra2 (s : State) : Host.Outcome State Fault Refusal := runBody ⟨true, false, false⟩ bodyOra s

/-- ORAr, byte 0x5D (R166). -/
def execOrar (s : State) : Host.Outcome State Fault Refusal := runBody ⟨false, true, false⟩ bodyOra s

/-- ORA2r, byte 0x7D (R166). -/
def execOra2r (s : State) : Host.Outcome State Fault Refusal := runBody ⟨true, true, false⟩ bodyOra s

/-- ORAk, byte 0x9D (R166). -/
def execOrak (s : State) : Host.Outcome State Fault Refusal := runBody ⟨false, false, true⟩ bodyOra s

/-- ORA2k, byte 0xBD (R166). -/
def execOra2k (s : State) : Host.Outcome State Fault Refusal := runBody ⟨true, false, true⟩ bodyOra s

/-- ORAkr, byte 0xDD (R166). -/
def execOrakr (s : State) : Host.Outcome State Fault Refusal := runBody ⟨false, true, true⟩ bodyOra s

/-- ORA2kr, byte 0xFD (R166). -/
def execOra2kr (s : State) : Host.Outcome State Fault Refusal := runBody ⟨true, true, true⟩ bodyOra s

/-- EOR, byte 0x1E (R167). -/
def execEor (s : State) : Host.Outcome State Fault Refusal := runBody ⟨false, false, false⟩ bodyEor s

/-- EOR2, byte 0x3E (R167). -/
def execEor2 (s : State) : Host.Outcome State Fault Refusal := runBody ⟨true, false, false⟩ bodyEor s

/-- EORr, byte 0x5E (R167). -/
def execEorr (s : State) : Host.Outcome State Fault Refusal := runBody ⟨false, true, false⟩ bodyEor s

/-- EOR2r, byte 0x7E (R167). -/
def execEor2r (s : State) : Host.Outcome State Fault Refusal := runBody ⟨true, true, false⟩ bodyEor s

/-- EORk, byte 0x9E (R167). -/
def execEork (s : State) : Host.Outcome State Fault Refusal := runBody ⟨false, false, true⟩ bodyEor s

/-- EOR2k, byte 0xBE (R167). -/
def execEor2k (s : State) : Host.Outcome State Fault Refusal := runBody ⟨true, false, true⟩ bodyEor s

/-- EORkr, byte 0xDE (R167). -/
def execEorkr (s : State) : Host.Outcome State Fault Refusal := runBody ⟨false, true, true⟩ bodyEor s

/-- EOR2kr, byte 0xFE (R167). -/
def execEor2kr (s : State) : Host.Outcome State Fault Refusal := runBody ⟨true, true, true⟩ bodyEor s

end Sys2Proof.Machine
end

