-- ==== Sys2Proof/Machine/Compare.lean ====
section
/-! DEFINITION. Comparison: EQU NEQ GTH LTH (spec/42_comparison.md).
First the pseudocode of each base operation, once; then one meaning per instruction, its mode flags in the
order short, return, keep. -/

namespace Sys2Proof.Machine

/-- `Compare(cond)`: pop `b`, then `a`; push one byte, 0x01 if the condition holds of the unsigned items and
0x00 if not, whatever the short flag is (42_comparison.md R110). -/
def compareItems (cond : Word → Word → Bool) (m : Mode) : Body Unit := do
  let b ← pop m m.src
  let a ← pop m m.src
  push8 m.src (if cond a b then 0x01 else 0x00)

/-- EQU (42_comparison.md R111). -/
def bodyEqu : Mode → Body Unit := compareItems fun a b => decide (a.toNat = b.toNat)

/-- NEQ (42_comparison.md R112). -/
def bodyNeq : Mode → Body Unit := compareItems fun a b => decide (a.toNat ≠ b.toNat)

/-- GTH (42_comparison.md R113). -/
def bodyGth : Mode → Body Unit := compareItems fun a b => decide (a.toNat > b.toNat)

/-- LTH (42_comparison.md R114). -/
def bodyLth : Mode → Body Unit := compareItems fun a b => decide (a.toNat < b.toNat)

/-- EQU, byte 0x08 (R111). -/
def execEqu (s : State) : Host.Outcome State Fault Refusal := runBody ⟨false, false, false⟩ bodyEqu s

/-- EQU2, byte 0x28 (R111). -/
def execEqu2 (s : State) : Host.Outcome State Fault Refusal := runBody ⟨true, false, false⟩ bodyEqu s

/-- EQUr, byte 0x48 (R111). -/
def execEqur (s : State) : Host.Outcome State Fault Refusal := runBody ⟨false, true, false⟩ bodyEqu s

/-- EQU2r, byte 0x68 (R111). -/
def execEqu2r (s : State) : Host.Outcome State Fault Refusal := runBody ⟨true, true, false⟩ bodyEqu s

/-- EQUk, byte 0x88 (R111). -/
def execEquk (s : State) : Host.Outcome State Fault Refusal := runBody ⟨false, false, true⟩ bodyEqu s

/-- EQU2k, byte 0xA8 (R111). -/
def execEqu2k (s : State) : Host.Outcome State Fault Refusal := runBody ⟨true, false, true⟩ bodyEqu s

/-- EQUkr, byte 0xC8 (R111). -/
def execEqukr (s : State) : Host.Outcome State Fault Refusal := runBody ⟨false, true, true⟩ bodyEqu s

/-- EQU2kr, byte 0xE8 (R111). -/
def execEqu2kr (s : State) : Host.Outcome State Fault Refusal := runBody ⟨true, true, true⟩ bodyEqu s

/-- NEQ, byte 0x09 (R112). -/
def execNeq (s : State) : Host.Outcome State Fault Refusal := runBody ⟨false, false, false⟩ bodyNeq s

/-- NEQ2, byte 0x29 (R112). -/
def execNeq2 (s : State) : Host.Outcome State Fault Refusal := runBody ⟨true, false, false⟩ bodyNeq s

/-- NEQr, byte 0x49 (R112). -/
def execNeqr (s : State) : Host.Outcome State Fault Refusal := runBody ⟨false, true, false⟩ bodyNeq s

/-- NEQ2r, byte 0x69 (R112). -/
def execNeq2r (s : State) : Host.Outcome State Fault Refusal := runBody ⟨true, true, false⟩ bodyNeq s

/-- NEQk, byte 0x89 (R112). -/
def execNeqk (s : State) : Host.Outcome State Fault Refusal := runBody ⟨false, false, true⟩ bodyNeq s

/-- NEQ2k, byte 0xA9 (R112). -/
def execNeq2k (s : State) : Host.Outcome State Fault Refusal := runBody ⟨true, false, true⟩ bodyNeq s

/-- NEQkr, byte 0xC9 (R112). -/
def execNeqkr (s : State) : Host.Outcome State Fault Refusal := runBody ⟨false, true, true⟩ bodyNeq s

/-- NEQ2kr, byte 0xE9 (R112). -/
def execNeq2kr (s : State) : Host.Outcome State Fault Refusal := runBody ⟨true, true, true⟩ bodyNeq s

/-- GTH, byte 0x0A (R113). -/
def execGth (s : State) : Host.Outcome State Fault Refusal := runBody ⟨false, false, false⟩ bodyGth s

/-- GTH2, byte 0x2A (R113). -/
def execGth2 (s : State) : Host.Outcome State Fault Refusal := runBody ⟨true, false, false⟩ bodyGth s

/-- GTHr, byte 0x4A (R113). -/
def execGthr (s : State) : Host.Outcome State Fault Refusal := runBody ⟨false, true, false⟩ bodyGth s

/-- GTH2r, byte 0x6A (R113). -/
def execGth2r (s : State) : Host.Outcome State Fault Refusal := runBody ⟨true, true, false⟩ bodyGth s

/-- GTHk, byte 0x8A (R113). -/
def execGthk (s : State) : Host.Outcome State Fault Refusal := runBody ⟨false, false, true⟩ bodyGth s

/-- GTH2k, byte 0xAA (R113). -/
def execGth2k (s : State) : Host.Outcome State Fault Refusal := runBody ⟨true, false, true⟩ bodyGth s

/-- GTHkr, byte 0xCA (R113). -/
def execGthkr (s : State) : Host.Outcome State Fault Refusal := runBody ⟨false, true, true⟩ bodyGth s

/-- GTH2kr, byte 0xEA (R113). -/
def execGth2kr (s : State) : Host.Outcome State Fault Refusal := runBody ⟨true, true, true⟩ bodyGth s

/-- LTH, byte 0x0B (R114). -/
def execLth (s : State) : Host.Outcome State Fault Refusal := runBody ⟨false, false, false⟩ bodyLth s

/-- LTH2, byte 0x2B (R114). -/
def execLth2 (s : State) : Host.Outcome State Fault Refusal := runBody ⟨true, false, false⟩ bodyLth s

/-- LTHr, byte 0x4B (R114). -/
def execLthr (s : State) : Host.Outcome State Fault Refusal := runBody ⟨false, true, false⟩ bodyLth s

/-- LTH2r, byte 0x6B (R114). -/
def execLth2r (s : State) : Host.Outcome State Fault Refusal := runBody ⟨true, true, false⟩ bodyLth s

/-- LTHk, byte 0x8B (R114). -/
def execLthk (s : State) : Host.Outcome State Fault Refusal := runBody ⟨false, false, true⟩ bodyLth s

/-- LTH2k, byte 0xAB (R114). -/
def execLth2k (s : State) : Host.Outcome State Fault Refusal := runBody ⟨true, false, true⟩ bodyLth s

/-- LTHkr, byte 0xCB (R114). -/
def execLthkr (s : State) : Host.Outcome State Fault Refusal := runBody ⟨false, true, true⟩ bodyLth s

/-- LTH2kr, byte 0xEB (R114). -/
def execLth2kr (s : State) : Host.Outcome State Fault Refusal := runBody ⟨true, true, true⟩ bodyLth s

end Sys2Proof.Machine
end

