-- ==== Sys2Proof/Machine/Control.lean ====
section
/-! DEFINITION. Control flow: JMP JCN JSR (spec/43_control_flow.md).
First the pseudocode of each base operation, once; then one meaning per instruction, its mode flags in the
order short, return, keep. -/

namespace Sys2Proof.Machine

/-- JMP (43_control_flow.md R121). -/
def bodyJmp (m : Mode) : Body Unit := do
  let a ← pop m m.src
  jump m a

/-- JCN: the condition is a byte whatever the short flag is (43_control_flow.md R122). -/
def bodyJcn (m : Mode) : Body Unit := do
  let a ← pop m m.src
  let c ← pop8 m.src
  if c ≠ 0 then jump m a

/-- JSR: the return address is a word whatever the short flag is (43_control_flow.md R123). -/
def bodyJsr (m : Mode) : Body Unit := do
  let a ← pop m m.src
  let pc ← readPc
  push16 m.dst pc
  jump m a

/-- JMP, byte 0x0C (R121). -/
def execJmp (s : State) : Host.Outcome State Fault Refusal := runBody ⟨false, false, false⟩ bodyJmp s

/-- JMP2, byte 0x2C (R121). -/
def execJmp2 (s : State) : Host.Outcome State Fault Refusal := runBody ⟨true, false, false⟩ bodyJmp s

/-- JMPr, byte 0x4C (R121). -/
def execJmpr (s : State) : Host.Outcome State Fault Refusal := runBody ⟨false, true, false⟩ bodyJmp s

/-- JMP2r, byte 0x6C (R121). -/
def execJmp2r (s : State) : Host.Outcome State Fault Refusal := runBody ⟨true, true, false⟩ bodyJmp s

/-- JMPk, byte 0x8C (R121). -/
def execJmpk (s : State) : Host.Outcome State Fault Refusal := runBody ⟨false, false, true⟩ bodyJmp s

/-- JMP2k, byte 0xAC (R121). -/
def execJmp2k (s : State) : Host.Outcome State Fault Refusal := runBody ⟨true, false, true⟩ bodyJmp s

/-- JMPkr, byte 0xCC (R121). -/
def execJmpkr (s : State) : Host.Outcome State Fault Refusal := runBody ⟨false, true, true⟩ bodyJmp s

/-- JMP2kr, byte 0xEC (R121). -/
def execJmp2kr (s : State) : Host.Outcome State Fault Refusal := runBody ⟨true, true, true⟩ bodyJmp s

/-- JCN, byte 0x0D (R122). -/
def execJcn (s : State) : Host.Outcome State Fault Refusal := runBody ⟨false, false, false⟩ bodyJcn s

/-- JCN2, byte 0x2D (R122). -/
def execJcn2 (s : State) : Host.Outcome State Fault Refusal := runBody ⟨true, false, false⟩ bodyJcn s

/-- JCNr, byte 0x4D (R122). -/
def execJcnr (s : State) : Host.Outcome State Fault Refusal := runBody ⟨false, true, false⟩ bodyJcn s

/-- JCN2r, byte 0x6D (R122). -/
def execJcn2r (s : State) : Host.Outcome State Fault Refusal := runBody ⟨true, true, false⟩ bodyJcn s

/-- JCNk, byte 0x8D (R122). -/
def execJcnk (s : State) : Host.Outcome State Fault Refusal := runBody ⟨false, false, true⟩ bodyJcn s

/-- JCN2k, byte 0xAD (R122). -/
def execJcn2k (s : State) : Host.Outcome State Fault Refusal := runBody ⟨true, false, true⟩ bodyJcn s

/-- JCNkr, byte 0xCD (R122). -/
def execJcnkr (s : State) : Host.Outcome State Fault Refusal := runBody ⟨false, true, true⟩ bodyJcn s

/-- JCN2kr, byte 0xED (R122). -/
def execJcn2kr (s : State) : Host.Outcome State Fault Refusal := runBody ⟨true, true, true⟩ bodyJcn s

/-- JSR, byte 0x0E (R123). -/
def execJsr (s : State) : Host.Outcome State Fault Refusal := runBody ⟨false, false, false⟩ bodyJsr s

/-- JSR2, byte 0x2E (R123). -/
def execJsr2 (s : State) : Host.Outcome State Fault Refusal := runBody ⟨true, false, false⟩ bodyJsr s

/-- JSRr, byte 0x4E (R123). -/
def execJsrr (s : State) : Host.Outcome State Fault Refusal := runBody ⟨false, true, false⟩ bodyJsr s

/-- JSR2r, byte 0x6E (R123). -/
def execJsr2r (s : State) : Host.Outcome State Fault Refusal := runBody ⟨true, true, false⟩ bodyJsr s

/-- JSRk, byte 0x8E (R123). -/
def execJsrk (s : State) : Host.Outcome State Fault Refusal := runBody ⟨false, false, true⟩ bodyJsr s

/-- JSR2k, byte 0xAE (R123). -/
def execJsr2k (s : State) : Host.Outcome State Fault Refusal := runBody ⟨true, false, true⟩ bodyJsr s

/-- JSRkr, byte 0xCE (R123). -/
def execJsrkr (s : State) : Host.Outcome State Fault Refusal := runBody ⟨false, true, true⟩ bodyJsr s

/-- JSR2kr, byte 0xEE (R123). -/
def execJsr2kr (s : State) : Host.Outcome State Fault Refusal := runBody ⟨true, true, true⟩ bodyJsr s

end Sys2Proof.Machine
end

