-- ==== Sys2Proof/Machine/DeviceIO.lean ====
section
/-! DEFINITION. Device input and output: DEI DEO (spec/46_device_io.md). The second address of a word access is
(a + 1) mod 256 (R150, R151, conflict C5, decision D7).
First the pseudocode of each base operation, once; then one meaning per instruction, its mode flags in the
order short, return, keep. -/

namespace Sys2Proof.Machine

/-- DEI: in short mode two device reads, at `a` and then at `a + 1` (46_device_io.md R150). -/
def bodyDei (m : Mode) : Body Unit := do
  let a ← pop8 m.src
  if m.short then do
    let hi ← readDevice a
    let lo ← readDevice (a + 1)
    push16 m.src (wordOf hi lo)
  else do
    let v ← readDevice a
    push8 m.src v

/-- DEO: in short mode two device writes, the high byte first (46_device_io.md R151). -/
def bodyDeo (m : Mode) : Body Unit := do
  let a ← pop8 m.src
  let v ← pop m m.src
  if m.short then do
    writeDevice a (hiByte v)
    writeDevice (a + 1) (loByte v)
  else
    writeDevice a (loByte v)

/-- DEI, byte 0x16 (R150). -/
def execDei (s : State) : Host.Outcome State Fault Refusal := runBody ⟨false, false, false⟩ bodyDei s

/-- DEI2, byte 0x36 (R150). -/
def execDei2 (s : State) : Host.Outcome State Fault Refusal := runBody ⟨true, false, false⟩ bodyDei s

/-- DEIr, byte 0x56 (R150). -/
def execDeir (s : State) : Host.Outcome State Fault Refusal := runBody ⟨false, true, false⟩ bodyDei s

/-- DEI2r, byte 0x76 (R150). -/
def execDei2r (s : State) : Host.Outcome State Fault Refusal := runBody ⟨true, true, false⟩ bodyDei s

/-- DEIk, byte 0x96 (R150). -/
def execDeik (s : State) : Host.Outcome State Fault Refusal := runBody ⟨false, false, true⟩ bodyDei s

/-- DEI2k, byte 0xB6 (R150). -/
def execDei2k (s : State) : Host.Outcome State Fault Refusal := runBody ⟨true, false, true⟩ bodyDei s

/-- DEIkr, byte 0xD6 (R150). -/
def execDeikr (s : State) : Host.Outcome State Fault Refusal := runBody ⟨false, true, true⟩ bodyDei s

/-- DEI2kr, byte 0xF6 (R150). -/
def execDei2kr (s : State) : Host.Outcome State Fault Refusal := runBody ⟨true, true, true⟩ bodyDei s

/-- DEO, byte 0x17 (R151). -/
def execDeo (s : State) : Host.Outcome State Fault Refusal := runBody ⟨false, false, false⟩ bodyDeo s

/-- DEO2, byte 0x37 (R151). -/
def execDeo2 (s : State) : Host.Outcome State Fault Refusal := runBody ⟨true, false, false⟩ bodyDeo s

/-- DEOr, byte 0x57 (R151). -/
def execDeor (s : State) : Host.Outcome State Fault Refusal := runBody ⟨false, true, false⟩ bodyDeo s

/-- DEO2r, byte 0x77 (R151). -/
def execDeo2r (s : State) : Host.Outcome State Fault Refusal := runBody ⟨true, true, false⟩ bodyDeo s

/-- DEOk, byte 0x97 (R151). -/
def execDeok (s : State) : Host.Outcome State Fault Refusal := runBody ⟨false, false, true⟩ bodyDeo s

/-- DEO2k, byte 0xB7 (R151). -/
def execDeo2k (s : State) : Host.Outcome State Fault Refusal := runBody ⟨true, false, true⟩ bodyDeo s

/-- DEOkr, byte 0xD7 (R151). -/
def execDeokr (s : State) : Host.Outcome State Fault Refusal := runBody ⟨false, true, true⟩ bodyDeo s

/-- DEO2kr, byte 0xF7 (R151). -/
def execDeo2kr (s : State) : Host.Outcome State Fault Refusal := runBody ⟨true, true, true⟩ bodyDeo s

end Sys2Proof.Machine
end

