-- ==== Sys2Proof/Machine/Literal.lean ====
section
/-! DEFINITION. BRK and LIT (spec/40_step_break_literal.md R93, R94).
First the pseudocode of each base operation, once; then one meaning per instruction, its mode flags in the
order short, return, keep. -/

namespace Sys2Proof.Machine

/-- LIT: push the literal on the active stack, then move the program counter past it. The push comes first,
so at an overflow the program counter is the literal's address (40_step_break_literal.md R93). `v` is the
literal, read from the instruction stream when the instruction was fetched. -/
def bodyLit (v : Word) (m : Mode) : Body Unit := do
  push m m.src v
  let pc ← readPc
  writePc (pc + BitVec.ofNat 16 m.width)

/-- BRK, byte 0x00: the core halts; nothing else changes (40_step_break_literal.md R94). -/
def execBrk (s : State) : Host.Outcome State Fault Refusal := .next s.halt

/-- LIT2, byte 0x20 (R93). -/
def execLit2 (imm : Word) (s : State) : Host.Outcome State Fault Refusal := runBody ⟨true, false, false⟩ (bodyLit imm) s

/-- LITr, byte 0x40 (R93). -/
def execLitr (imm : Byte) (s : State) : Host.Outcome State Fault Refusal := runBody ⟨false, true, false⟩ (bodyLit (zeroExtend imm)) s

/-- LIT2r, byte 0x60 (R93). -/
def execLit2r (imm : Word) (s : State) : Host.Outcome State Fault Refusal := runBody ⟨true, true, false⟩ (bodyLit imm) s

/-- LITk, byte 0x80 (R93). -/
def execLitk (imm : Byte) (s : State) : Host.Outcome State Fault Refusal := runBody ⟨false, false, true⟩ (bodyLit (zeroExtend imm)) s

/-- LIT2k, byte 0xA0 (R93). -/
def execLit2k (imm : Word) (s : State) : Host.Outcome State Fault Refusal := runBody ⟨true, false, true⟩ (bodyLit imm) s

/-- LITkr, byte 0xC0 (R93). -/
def execLitkr (imm : Byte) (s : State) : Host.Outcome State Fault Refusal := runBody ⟨false, true, true⟩ (bodyLit (zeroExtend imm)) s

/-- LIT2kr, byte 0xE0 (R93). -/
def execLit2kr (imm : Word) (s : State) : Host.Outcome State Fault Refusal := runBody ⟨true, true, true⟩ (bodyLit imm) s

end Sys2Proof.Machine
end

