-- ==== Sys2Proof/Machine/MemoryAccess.lean ====
section
/-! DEFINITION. Memory access: LDZ STZ LDR STR LDA STA (spec/45_memory_access.md). The width of the address operand
does not follow the short flag; a store pops the address first and the value second (R135, decision D6).
First the pseudocode of each base operation, once; then one meaning per instruction, its mode flags in the
order short, return, keep. -/

namespace Sys2Proof.Machine

/-- LDZ (45_memory_access.md R136). -/
def bodyLdz (m : Mode) : Body Unit := do
  let z ← pop8 m.src
  let v ← load m (zeroPageAddress z)
  push m m.src v

/-- STZ (45_memory_access.md R137). -/
def bodyStz (m : Mode) : Body Unit := do
  let z ← pop8 m.src
  let v ← pop m m.src
  store m (zeroPageAddress z) v

/-- LDR (45_memory_access.md R138). -/
def bodyLdr (m : Mode) : Body Unit := do
  let o ← pop8 m.src
  let pc ← readPc
  let v ← load m (relativeAddress pc o)
  push m m.src v

/-- STR (45_memory_access.md R139). -/
def bodyStr (m : Mode) : Body Unit := do
  let o ← pop8 m.src
  let v ← pop m m.src
  let pc ← readPc
  store m (relativeAddress pc o) v

/-- LDA (45_memory_access.md R140). -/
def bodyLda (m : Mode) : Body Unit := do
  let w ← pop16 m.src
  let v ← load m w
  push m m.src v

/-- STA (45_memory_access.md R141). -/
def bodySta (m : Mode) : Body Unit := do
  let w ← pop16 m.src
  let v ← pop m m.src
  store m w v

/-- LDZ, byte 0x10 (R136). -/
def execLdz (s : State) : Host.Outcome State Fault Refusal := runBody ⟨false, false, false⟩ bodyLdz s

/-- LDZ2, byte 0x30 (R136). -/
def execLdz2 (s : State) : Host.Outcome State Fault Refusal := runBody ⟨true, false, false⟩ bodyLdz s

/-- LDZr, byte 0x50 (R136). -/
def execLdzr (s : State) : Host.Outcome State Fault Refusal := runBody ⟨false, true, false⟩ bodyLdz s

/-- LDZ2r, byte 0x70 (R136). -/
def execLdz2r (s : State) : Host.Outcome State Fault Refusal := runBody ⟨true, true, false⟩ bodyLdz s

/-- LDZk, byte 0x90 (R136). -/
def execLdzk (s : State) : Host.Outcome State Fault Refusal := runBody ⟨false, false, true⟩ bodyLdz s

/-- LDZ2k, byte 0xB0 (R136). -/
def execLdz2k (s : State) : Host.Outcome State Fault Refusal := runBody ⟨true, false, true⟩ bodyLdz s

/-- LDZkr, byte 0xD0 (R136). -/
def execLdzkr (s : State) : Host.Outcome State Fault Refusal := runBody ⟨false, true, true⟩ bodyLdz s

/-- LDZ2kr, byte 0xF0 (R136). -/
def execLdz2kr (s : State) : Host.Outcome State Fault Refusal := runBody ⟨true, true, true⟩ bodyLdz s

/-- STZ, byte 0x11 (R137). -/
def execStz (s : State) : Host.Outcome State Fault Refusal := runBody ⟨false, false, false⟩ bodyStz s

/-- STZ2, byte 0x31 (R137). -/
def execStz2 (s : State) : Host.Outcome State Fault Refusal := runBody ⟨true, false, false⟩ bodyStz s

/-- STZr, byte 0x51 (R137). -/
def execStzr (s : State) : Host.Outcome State Fault Refusal := runBody ⟨false, true, false⟩ bodyStz s

/-- STZ2r, byte 0x71 (R137). -/
def execStz2r (s : State) : Host.Outcome State Fault Refusal := runBody ⟨true, true, false⟩ bodyStz s

/-- STZk, byte 0x91 (R137). -/
def execStzk (s : State) : Host.Outcome State Fault Refusal := runBody ⟨false, false, true⟩ bodyStz s

/-- STZ2k, byte 0xB1 (R137). -/
def execStz2k (s : State) : Host.Outcome State Fault Refusal := runBody ⟨true, false, true⟩ bodyStz s

/-- STZkr, byte 0xD1 (R137). -/
def execStzkr (s : State) : Host.Outcome State Fault Refusal := runBody ⟨false, true, true⟩ bodyStz s

/-- STZ2kr, byte 0xF1 (R137). -/
def execStz2kr (s : State) : Host.Outcome State Fault Refusal := runBody ⟨true, true, true⟩ bodyStz s

/-- LDR, byte 0x12 (R138). -/
def execLdr (s : State) : Host.Outcome State Fault Refusal := runBody ⟨false, false, false⟩ bodyLdr s

/-- LDR2, byte 0x32 (R138). -/
def execLdr2 (s : State) : Host.Outcome State Fault Refusal := runBody ⟨true, false, false⟩ bodyLdr s

/-- LDRr, byte 0x52 (R138). -/
def execLdrr (s : State) : Host.Outcome State Fault Refusal := runBody ⟨false, true, false⟩ bodyLdr s

/-- LDR2r, byte 0x72 (R138). -/
def execLdr2r (s : State) : Host.Outcome State Fault Refusal := runBody ⟨true, true, false⟩ bodyLdr s

/-- LDRk, byte 0x92 (R138). -/
def execLdrk (s : State) : Host.Outcome State Fault Refusal := runBody ⟨false, false, true⟩ bodyLdr s

/-- LDR2k, byte 0xB2 (R138). -/
def execLdr2k (s : State) : Host.Outcome State Fault Refusal := runBody ⟨true, false, true⟩ bodyLdr s

/-- LDRkr, byte 0xD2 (R138). -/
def execLdrkr (s : State) : Host.Outcome State Fault Refusal := runBody ⟨false, true, true⟩ bodyLdr s

/-- LDR2kr, byte 0xF2 (R138). -/
def execLdr2kr (s : State) : Host.Outcome State Fault Refusal := runBody ⟨true, true, true⟩ bodyLdr s

/-- STR, byte 0x13 (R139). -/
def execStr (s : State) : Host.Outcome State Fault Refusal := runBody ⟨false, false, false⟩ bodyStr s

/-- STR2, byte 0x33 (R139). -/
def execStr2 (s : State) : Host.Outcome State Fault Refusal := runBody ⟨true, false, false⟩ bodyStr s

/-- STRr, byte 0x53 (R139). -/
def execStrr (s : State) : Host.Outcome State Fault Refusal := runBody ⟨false, true, false⟩ bodyStr s

/-- STR2r, byte 0x73 (R139). -/
def execStr2r (s : State) : Host.Outcome State Fault Refusal := runBody ⟨true, true, false⟩ bodyStr s

/-- STRk, byte 0x93 (R139). -/
def execStrk (s : State) : Host.Outcome State Fault Refusal := runBody ⟨false, false, true⟩ bodyStr s

/-- STR2k, byte 0xB3 (R139). -/
def execStr2k (s : State) : Host.Outcome State Fault Refusal := runBody ⟨true, false, true⟩ bodyStr s

/-- STRkr, byte 0xD3 (R139). -/
def execStrkr (s : State) : Host.Outcome State Fault Refusal := runBody ⟨false, true, true⟩ bodyStr s

/-- STR2kr, byte 0xF3 (R139). -/
def execStr2kr (s : State) : Host.Outcome State Fault Refusal := runBody ⟨true, true, true⟩ bodyStr s

/-- LDA, byte 0x14 (R140). -/
def execLda (s : State) : Host.Outcome State Fault Refusal := runBody ⟨false, false, false⟩ bodyLda s

/-- LDA2, byte 0x34 (R140). -/
def execLda2 (s : State) : Host.Outcome State Fault Refusal := runBody ⟨true, false, false⟩ bodyLda s

/-- LDAr, byte 0x54 (R140). -/
def execLdar (s : State) : Host.Outcome State Fault Refusal := runBody ⟨false, true, false⟩ bodyLda s

/-- LDA2r, byte 0x74 (R140). -/
def execLda2r (s : State) : Host.Outcome State Fault Refusal := runBody ⟨true, true, false⟩ bodyLda s

/-- LDAk, byte 0x94 (R140). -/
def execLdak (s : State) : Host.Outcome State Fault Refusal := runBody ⟨false, false, true⟩ bodyLda s

/-- LDA2k, byte 0xB4 (R140). -/
def execLda2k (s : State) : Host.Outcome State Fault Refusal := runBody ⟨true, false, true⟩ bodyLda s

/-- LDAkr, byte 0xD4 (R140). -/
def execLdakr (s : State) : Host.Outcome State Fault Refusal := runBody ⟨false, true, true⟩ bodyLda s

/-- LDA2kr, byte 0xF4 (R140). -/
def execLda2kr (s : State) : Host.Outcome State Fault Refusal := runBody ⟨true, true, true⟩ bodyLda s

/-- STA, byte 0x15 (R141). -/
def execSta (s : State) : Host.Outcome State Fault Refusal := runBody ⟨false, false, false⟩ bodySta s

/-- STA2, byte 0x35 (R141). -/
def execSta2 (s : State) : Host.Outcome State Fault Refusal := runBody ⟨true, false, false⟩ bodySta s

/-- STAr, byte 0x55 (R141). -/
def execStar (s : State) : Host.Outcome State Fault Refusal := runBody ⟨false, true, false⟩ bodySta s

/-- STA2r, byte 0x75 (R141). -/
def execSta2r (s : State) : Host.Outcome State Fault Refusal := runBody ⟨true, true, false⟩ bodySta s

/-- STAk, byte 0x95 (R141). -/
def execStak (s : State) : Host.Outcome State Fault Refusal := runBody ⟨false, false, true⟩ bodySta s

/-- STA2k, byte 0xB5 (R141). -/
def execSta2k (s : State) : Host.Outcome State Fault Refusal := runBody ⟨true, false, true⟩ bodySta s

/-- STAkr, byte 0xD5 (R141). -/
def execStakr (s : State) : Host.Outcome State Fault Refusal := runBody ⟨false, true, true⟩ bodySta s

/-- STA2kr, byte 0xF5 (R141). -/
def execSta2kr (s : State) : Host.Outcome State Fault Refusal := runBody ⟨true, true, true⟩ bodySta s

end Sys2Proof.Machine
end

