-- ==== Sys2Proof/Machine/Shift.lean ====
section
/-! DEFINITION. Shift: SFT (spec/48_shift.md).
First the pseudocode of each base operation, once; then one meaning per instruction, its mode flags in the
order short, return, keep. -/

namespace Sys2Proof.Machine

/-- `(v >> t[3:0]) << t[7:4]`: the right shift first, zeros entering at the top; amounts are not taken modulo
the width (48_shift.md R175). Bits above the word are lost here, bits above a byte by `trunc`. -/
def shiftValue (v : Word) (t : Byte) : Word := (v >>> (t &&& 0x0F#8).toNat) <<< (t >>> 4).toNat

/-- SFT: the specification is a byte whatever the short flag is (48_shift.md R175). -/
def bodySft (m : Mode) : Body Unit := do
  let t ← pop8 m.src
  let v ← pop m m.src
  push m m.src (m.trunc (shiftValue v t))

/-- SFT, byte 0x1F (R175). -/
def execSft (s : State) : Host.Outcome State Fault Refusal := runBody ⟨false, false, false⟩ bodySft s

/-- SFT2, byte 0x3F (R175). -/
def execSft2 (s : State) : Host.Outcome State Fault Refusal := runBody ⟨true, false, false⟩ bodySft s

/-- SFTr, byte 0x5F (R175). -/
def execSftr (s : State) : Host.Outcome State Fault Refusal := runBody ⟨false, true, false⟩ bodySft s

/-- SFT2r, byte 0x7F (R175). -/
def execSft2r (s : State) : Host.Outcome State Fault Refusal := runBody ⟨true, true, false⟩ bodySft s

/-- SFTk, byte 0x9F (R175). -/
def execSftk (s : State) : Host.Outcome State Fault Refusal := runBody ⟨false, false, true⟩ bodySft s

/-- SFT2k, byte 0xBF (R175). -/
def execSft2k (s : State) : Host.Outcome State Fault Refusal := runBody ⟨true, false, true⟩ bodySft s

/-- SFTkr, byte 0xDF (R175). -/
def execSftkr (s : State) : Host.Outcome State Fault Refusal := runBody ⟨false, true, true⟩ bodySft s

/-- SFT2kr, byte 0xFF (R175). -/
def execSft2kr (s : State) : Host.Outcome State Fault Refusal := runBody ⟨true, true, true⟩ bodySft s

end Sys2Proof.Machine
end

