-- ==== Sys2Proof/Machine/Shuffle.lean ====
section
/-! DEFINITION. Stack shuffling: INC POP DUP NIP SWP OVR ROT (spec/41_stack_shuffling.md).
First the pseudocode of each base operation, once; then one meaning per instruction, its mode flags in the
order short, return, keep. -/

namespace Sys2Proof.Machine

/-- INC (41_stack_shuffling.md R100). -/
def bodyInc (m : Mode) : Body Unit := do
  let a ← pop m m.src
  push m m.src (m.trunc (a + 1))

/-- POP (41_stack_shuffling.md R101). -/
def bodyPop (m : Mode) : Body Unit := do
  let _ ← pop m m.src

/-- DUP (41_stack_shuffling.md R102). -/
def bodyDup (m : Mode) : Body Unit := do
  let a ← pop m m.src
  push m m.src a
  push m m.src a

/-- NIP (41_stack_shuffling.md R103). -/
def bodyNip (m : Mode) : Body Unit := do
  let b ← pop m m.src
  let _ ← pop m m.src
  push m m.src b

/-- SWP (41_stack_shuffling.md R104). -/
def bodySwp (m : Mode) : Body Unit := do
  let b ← pop m m.src
  let a ← pop m m.src
  push m m.src b
  push m m.src a

/-- OVR (41_stack_shuffling.md R105). -/
def bodyOvr (m : Mode) : Body Unit := do
  let b ← pop m m.src
  let a ← pop m m.src
  push m m.src a
  push m m.src b
  push m m.src a

/-- ROT (41_stack_shuffling.md R106). -/
def bodyRot (m : Mode) : Body Unit := do
  let c ← pop m m.src
  let b ← pop m m.src
  let a ← pop m m.src
  push m m.src b
  push m m.src c
  push m m.src a

/-- INC, byte 0x01 (R100). -/
def execInc (s : State) : Host.Outcome State Fault Refusal := runBody ⟨false, false, false⟩ bodyInc s

/-- INC2, byte 0x21 (R100). -/
def execInc2 (s : State) : Host.Outcome State Fault Refusal := runBody ⟨true, false, false⟩ bodyInc s

/-- INCr, byte 0x41 (R100). -/
def execIncr (s : State) : Host.Outcome State Fault Refusal := runBody ⟨false, true, false⟩ bodyInc s

/-- INC2r, byte 0x61 (R100). -/
def execInc2r (s : State) : Host.Outcome State Fault Refusal := runBody ⟨true, true, false⟩ bodyInc s

/-- INCk, byte 0x81 (R100). -/
def execInck (s : State) : Host.Outcome State Fault Refusal := runBody ⟨false, false, true⟩ bodyInc s

/-- INC2k, byte 0xA1 (R100). -/
def execInc2k (s : State) : Host.Outcome State Fault Refusal := runBody ⟨true, false, true⟩ bodyInc s

/-- INCkr, byte 0xC1 (R100). -/
def execInckr (s : State) : Host.Outcome State Fault Refusal := runBody ⟨false, true, true⟩ bodyInc s

/-- INC2kr, byte 0xE1 (R100). -/
def execInc2kr (s : State) : Host.Outcome State Fault Refusal := runBody ⟨true, true, true⟩ bodyInc s

/-- POP, byte 0x02 (R101). -/
def execPop (s : State) : Host.Outcome State Fault Refusal := runBody ⟨false, false, false⟩ bodyPop s

/-- POP2, byte 0x22 (R101). -/
def execPop2 (s : State) : Host.Outcome State Fault Refusal := runBody ⟨true, false, false⟩ bodyPop s

/-- POPr, byte 0x42 (R101). -/
def execPopr (s : State) : Host.Outcome State Fault Refusal := runBody ⟨false, true, false⟩ bodyPop s

/-- POP2r, byte 0x62 (R101). -/
def execPop2r (s : State) : Host.Outcome State Fault Refusal := runBody ⟨true, true, false⟩ bodyPop s

/-- POPk, byte 0x82 (R101). -/
def execPopk (s : State) : Host.Outcome State Fault Refusal := runBody ⟨false, false, true⟩ bodyPop s

/-- POP2k, byte 0xA2 (R101). -/
def execPop2k (s : State) : Host.Outcome State Fault Refusal := runBody ⟨true, false, true⟩ bodyPop s

/-- POPkr, byte 0xC2 (R101). -/
def execPopkr (s : State) : Host.Outcome State Fault Refusal := runBody ⟨false, true, true⟩ bodyPop s

/-- POP2kr, byte 0xE2 (R101). -/
def execPop2kr (s : State) : Host.Outcome State Fault Refusal := runBody ⟨true, true, true⟩ bodyPop s

/-- DUP, byte 0x03 (R102). -/
def execDup (s : State) : Host.Outcome State Fault Refusal := runBody ⟨false, false, false⟩ bodyDup s

/-- DUP2, byte 0x23 (R102). -/
def execDup2 (s : State) : Host.Outcome State Fault Refusal := runBody ⟨true, false, false⟩ bodyDup s

/-- DUPr, byte 0x43 (R102). -/
def execDupr (s : State) : Host.Outcome State Fault Refusal := runBody ⟨false, true, false⟩ bodyDup s

/-- DUP2r, byte 0x63 (R102). -/
def execDup2r (s : State) : Host.Outcome State Fault Refusal := runBody ⟨true, true, false⟩ bodyDup s

/-- DUPk, byte 0x83 (R102). -/
def execDupk (s : State) : Host.Outcome State Fault Refusal := runBody ⟨false, false, true⟩ bodyDup s

/-- DUP2k, byte 0xA3 (R102). -/
def execDup2k (s : State) : Host.Outcome State Fault Refusal := runBody ⟨true, false, true⟩ bodyDup s

/-- DUPkr, byte 0xC3 (R102). -/
def execDupkr (s : State) : Host.Outcome State Fault Refusal := runBody ⟨false, true, true⟩ bodyDup s

/-- DUP2kr, byte 0xE3 (R102). -/
def execDup2kr (s : State) : Host.Outcome State Fault Refusal := runBody ⟨true, true, true⟩ bodyDup s

/-- NIP, byte 0x04 (R103). -/
def execNip (s : State) : Host.Outcome State Fault Refusal := runBody ⟨false, false, false⟩ bodyNip s

/-- NIP2, byte 0x24 (R103). -/
def execNip2 (s : State) : Host.Outcome State Fault Refusal := runBody ⟨true, false, false⟩ bodyNip s

/-- NIPr, byte 0x44 (R103). -/
def execNipr (s : State) : Host.Outcome State Fault Refusal := runBody ⟨false, true, false⟩ bodyNip s

/-- NIP2r, byte 0x64 (R103). -/
def execNip2r (s : State) : Host.Outcome State Fault Refusal := runBody ⟨true, true, false⟩ bodyNip s

/-- NIPk, byte 0x84 (R103). -/
def execNipk (s : State) : Host.Outcome State Fault Refusal := runBody ⟨false, false, true⟩ bodyNip s

/-- NIP2k, byte 0xA4 (R103). -/
def execNip2k (s : State) : Host.Outcome State Fault Refusal := runBody ⟨true, false, true⟩ bodyNip s

/-- NIPkr, byte 0xC4 (R103). -/
def execNipkr (s : State) : Host.Outcome State Fault Refusal := runBody ⟨false, true, true⟩ bodyNip s

/-- NIP2kr, byte 0xE4 (R103). -/
def execNip2kr (s : State) : Host.Outcome State Fault Refusal := runBody ⟨true, true, true⟩ bodyNip s

/-- SWP, byte 0x05 (R104). -/
def execSwp (s : State) : Host.Outcome State Fault Refusal := runBody ⟨false, false, false⟩ bodySwp s

/-- SWP2, byte 0x25 (R104). -/
def execSwp2 (s : State) : Host.Outcome State Fault Refusal := runBody ⟨true, false, false⟩ bodySwp s

/-- SWPr, byte 0x45 (R104). -/
def execSwpr (s : State) : Host.Outcome State Fault Refusal := runBody ⟨false, true, false⟩ bodySwp s

/-- SWP2r, byte 0x65 (R104). -/
def execSwp2r (s : State) : Host.Outcome State Fault Refusal := runBody ⟨true, true, false⟩ bodySwp s

/-- SWPk, byte 0x85 (R104). -/
def execSwpk (s : State) : Host.Outcome State Fault Refusal := runBody ⟨false, false, true⟩ bodySwp s

/-- SWP2k, byte 0xA5 (R104). -/
def execSwp2k (s : State) : Host.Outcome State Fault Refusal := runBody ⟨true, false, true⟩ bodySwp s

/-- SWPkr, byte 0xC5 (R104). -/
def execSwpkr (s : State) : Host.Outcome State Fault Refusal := runBody ⟨false, true, true⟩ bodySwp s

/-- SWP2kr, byte 0xE5 (R104). -/
def execSwp2kr (s : State) : Host.Outcome State Fault Refusal := runBody ⟨true, true, true⟩ bodySwp s

/-- OVR, byte 0x06 (R105). -/
def execOvr (s : State) : Host.Outcome State Fault Refusal := runBody ⟨false, false, false⟩ bodyOvr s

/-- OVR2, byte 0x26 (R105). -/
def execOvr2 (s : State) : Host.Outcome State Fault Refusal := runBody ⟨true, false, false⟩ bodyOvr s

/-- OVRr, byte 0x46 (R105). -/
def execOvrr (s : State) : Host.Outcome State Fault Refusal := runBody ⟨false, true, false⟩ bodyOvr s

/-- OVR2r, byte 0x66 (R105). -/
def execOvr2r (s : State) : Host.Outcome State Fault Refusal := runBody ⟨true, true, false⟩ bodyOvr s

/-- OVRk, byte 0x86 (R105). -/
def execOvrk (s : State) : Host.Outcome State Fault Refusal := runBody ⟨false, false, true⟩ bodyOvr s

/-- OVR2k, byte 0xA6 (R105). -/
def execOvr2k (s : State) : Host.Outcome State Fault Refusal := runBody ⟨true, false, true⟩ bodyOvr s

/-- OVRkr, byte 0xC6 (R105). -/
def execOvrkr (s : State) : Host.Outcome State Fault Refusal := runBody ⟨false, true, true⟩ bodyOvr s

/-- OVR2kr, byte 0xE6 (R105). -/
def execOvr2kr (s : State) : Host.Outcome State Fault Refusal := runBody ⟨true, true, true⟩ bodyOvr s

/-- ROT, byte 0x07 (R106). -/
def execRot (s : State) : Host.Outcome State Fault Refusal := runBody ⟨false, false, false⟩ bodyRot s

/-- ROT2, byte 0x27 (R106). -/
def execRot2 (s : State) : Host.Outcome State Fault Refusal := runBody ⟨true, false, false⟩ bodyRot s

/-- ROTr, byte 0x47 (R106). -/
def execRotr (s : State) : Host.Outcome State Fault Refusal := runBody ⟨false, true, false⟩ bodyRot s

/-- ROT2r, byte 0x67 (R106). -/
def execRot2r (s : State) : Host.Outcome State Fault Refusal := runBody ⟨true, true, false⟩ bodyRot s

/-- ROTk, byte 0x87 (R106). -/
def execRotk (s : State) : Host.Outcome State Fault Refusal := runBody ⟨false, false, true⟩ bodyRot s

/-- ROT2k, byte 0xA7 (R106). -/
def execRot2k (s : State) : Host.Outcome State Fault Refusal := runBody ⟨true, false, true⟩ bodyRot s

/-- ROTkr, byte 0xC7 (R106). -/
def execRotkr (s : State) : Host.Outcome State Fault Refusal := runBody ⟨false, true, true⟩ bodyRot s

/-- ROT2kr, byte 0xE7 (R106). -/
def execRot2kr (s : State) : Host.Outcome State Fault Refusal := runBody ⟨true, true, true⟩ bodyRot s

end Sys2Proof.Machine
end

