-- ==== Sys2Proof/Machine/Transfer.lean ====
section
/-! DEFINITION. Stack transfer: STH (spec/44_stack_transfer.md).
First the pseudocode of each base operation, once; then one meaning per instruction, its mode flags in the
order short, return, keep. -/

namespace Sys2Proof.Machine

/-- STH (44_stack_transfer.md R130). -/
def bodySth (m : Mode) : Body Unit := do
  let a ← pop m m.src
  push m m.dst a

/-- STH, byte 0x0F (R130). -/
def execSth (s : State) : Host.Outcome State Fault Refusal := runBody ⟨false, false, false⟩ bodySth s

/-- STH2, byte 0x2F (R130). -/
def execSth2 (s : State) : Host.Outcome State Fault Refusal := runBody ⟨true, false, false⟩ bodySth s

/-- STHr, byte 0x4F (R130). -/
def execSthr (s : State) : Host.Outcome State Fault Refusal := runBody ⟨false, true, false⟩ bodySth s

/-- STH2r, byte 0x6F (R130). -/
def execSth2r (s : State) : Host.Outcome State Fault Refusal := runBody ⟨true, true, false⟩ bodySth s

/-- STHk, byte 0x8F (R130). -/
def execSthk (s : State) : Host.Outcome State Fault Refusal := runBody ⟨false, false, true⟩ bodySth s

/-- STH2k, byte 0xAF (R130). -/
def execSth2k (s : State) : Host.Outcome State Fault Refusal := runBody ⟨true, false, true⟩ bodySth s

/-- STHkr, byte 0xCF (R130). -/
def execSthkr (s : State) : Host.Outcome State Fault Refusal := runBody ⟨false, true, true⟩ bodySth s

/-- STH2kr, byte 0xEF (R130). -/
def execSth2kr (s : State) : Host.Outcome State Fault Refusal := runBody ⟨true, true, true⟩ bodySth s

end Sys2Proof.Machine
end

