-- ==== Sys2Proof/Syntax.lean ====
section
/-! DEFINITION. The instructions, one constructor per row of spec/opcode_table.json
(spec/30_encoding.md R79). The name is the row's mnemonic: the base operation's three letters, then `2`
for the short flag, `k` for the keep flag, `r` for the return flag (R80). Only LIT has an operand in the
instruction stream, its literal (R70, R75). -/

namespace Sys2Proof

/-- An instruction: one of the 256 opcode bytes, a LIT with its literal. -/
inductive Instr where
  /-- BRK, byte 0x00 (R94). -/
  | brk
  /-- INC, byte 0x01 (R100). -/
  | inc
  /-- POP, byte 0x02 (R101). -/
  | pop
  /-- DUP, byte 0x03 (R102). -/
  | dup
  /-- NIP, byte 0x04 (R103). -/
  | nip
  /-- SWP, byte 0x05 (R104). -/
  | swp
  /-- OVR, byte 0x06 (R105). -/
  | ovr
  /-- ROT, byte 0x07 (R106). -/
  | rot
  /-- EQU, byte 0x08 (R111). -/
  | equ
  /-- NEQ, byte 0x09 (R112). -/
  | neq
  /-- GTH, byte 0x0A (R113). -/
  | gth
  /-- LTH, byte 0x0B (R114). -/
  | lth
  /-- JMP, byte 0x0C (R121). -/
  | jmp
  /-- JCN, byte 0x0D (R122). -/
  | jcn
  /-- JSR, byte 0x0E (R123). -/
  | jsr
  /-- STH, byte 0x0F (R130). -/
  | sth
  /-- LDZ, byte 0x10 (R136). -/
  | ldz
  /-- STZ, byte 0x11 (R137). -/
  | stz
  /-- LDR, byte 0x12 (R138). -/
  | ldr
  /-- STR, byte 0x13 (R139). -/
  | str
  /-- LDA, byte 0x14 (R140). -/
  | lda
  /-- STA, byte 0x15 (R141). -/
  | sta
  /-- DEI, byte 0x16 (R150). -/
  | dei
  /-- DEO, byte 0x17 (R151). -/
  | deo
  /-- ADD, byte 0x18 (R161). -/
  | add
  /-- SUB, byte 0x19 (R162). -/
  | sub
  /-- MUL, byte 0x1A (R163). -/
  | mul
  /-- DIV, byte 0x1B (R164). -/
  | div
  /-- AND, byte 0x1C (R165). -/
  | and
  /-- ORA, byte 0x1D (R166). -/
  | ora
  /-- EOR, byte 0x1E (R167). -/
  | eor
  /-- SFT, byte 0x1F (R175). -/
  | sft
  /-- LIT2, byte 0x20 (R93). -/
  | lit2 (imm : Word)
  /-- INC2, byte 0x21 (R100). -/
  | inc2
  /-- POP2, byte 0x22 (R101). -/
  | pop2
  /-- DUP2, byte 0x23 (R102). -/
  | dup2
  /-- NIP2, byte 0x24 (R103). -/
  | nip2
  /-- SWP2, byte 0x25 (R104). -/
  | swp2
  /-- OVR2, byte 0x26 (R105). -/
  | ovr2
  /-- ROT2, byte 0x27 (R106). -/
  | rot2
  /-- EQU2, byte 0x28 (R111). -/
  | equ2
  /-- NEQ2, byte 0x29 (R112). -/
  | neq2
  /-- GTH2, byte 0x2A (R113). -/
  | gth2
  /-- LTH2, byte 0x2B (R114). -/
  | lth2
  /-- JMP2, byte 0x2C (R121). -/
  | jmp2
  /-- JCN2, byte 0x2D (R122). -/
  | jcn2
  /-- JSR2, byte 0x2E (R123). -/
  | jsr2
  /-- STH2, byte 0x2F (R130). -/
  | sth2
  /-- LDZ2, byte 0x30 (R136). -/
  | ldz2
  /-- STZ2, byte 0x31 (R137). -/
  | stz2
  /-- LDR2, byte 0x32 (R138). -/
  | ldr2
  /-- STR2, byte 0x33 (R139). -/
  | str2
  /-- LDA2, byte 0x34 (R140). -/
  | lda2
  /-- STA2, byte 0x35 (R141). -/
  | sta2
  /-- DEI2, byte 0x36 (R150). -/
  | dei2
  /-- DEO2, byte 0x37 (R151). -/
  | deo2
  /-- ADD2, byte 0x38 (R161). -/
  | add2
  /-- SUB2, byte 0x39 (R162). -/
  | sub2
  /-- MUL2, byte 0x3A (R163). -/
  | mul2
  /-- DIV2, byte 0x3B (R164). -/
  | div2
  /-- AND2, byte 0x3C (R165). -/
  | and2
  /-- ORA2, byte 0x3D (R166). -/
  | ora2
  /-- EOR2, byte 0x3E (R167). -/
  | eor2
  /-- SFT2, byte 0x3F (R175). -/
  | sft2
  /-- LITr, byte 0x40 (R93). -/
  | litr (imm : Byte)
  /-- INCr, byte 0x41 (R100). -/
  | incr
  /-- POPr, byte 0x42 (R101). -/
  | popr
  /-- DUPr, byte 0x43 (R102). -/
  | dupr
  /-- NIPr, byte 0x44 (R103). -/
  | nipr
  /-- SWPr, byte 0x45 (R104). -/
  | swpr
  /-- OVRr, byte 0x46 (R105). -/
  | ovrr
  /-- ROTr, byte 0x47 (R106). -/
  | rotr
  /-- EQUr, byte 0x48 (R111). -/
  | equr
  /-- NEQr, byte 0x49 (R112). -/
  | neqr
  /-- GTHr, byte 0x4A (R113). -/
  | gthr
  /-- LTHr, byte 0x4B (R114). -/
  | lthr
  /-- JMPr, byte 0x4C (R121). -/
  | jmpr
  /-- JCNr, byte 0x4D (R122). -/
  | jcnr
  /-- JSRr, byte 0x4E (R123). -/
  | jsrr
  /-- STHr, byte 0x4F (R130). -/
  | sthr
  /-- LDZr, byte 0x50 (R136). -/
  | ldzr
  /-- STZr, byte 0x51 (R137). -/
  | stzr
  /-- LDRr, byte 0x52 (R138). -/
  | ldrr
  /-- STRr, byte 0x53 (R139). -/
  | strr
  /-- LDAr, byte 0x54 (R140). -/
  | ldar
  /-- STAr, byte 0x55 (R141). -/
  | star
  /-- DEIr, byte 0x56 (R150). -/
  | deir
  /-- DEOr, byte 0x57 (R151). -/
  | deor
  /-- ADDr, byte 0x58 (R161). -/
  | addr
  /-- SUBr, byte 0x59 (R162). -/
  | subr
  /-- MULr, byte 0x5A (R163). -/
  | mulr
  /-- DIVr, byte 0x5B (R164). -/
  | divr
  /-- ANDr, byte 0x5C (R165). -/
  | andr
  /-- ORAr, byte 0x5D (R166). -/
  | orar
  /-- EORr, byte 0x5E (R167). -/
  | eorr
  /-- SFTr, byte 0x5F (R175). -/
  | sftr
  /-- LIT2r, byte 0x60 (R93). -/
  | lit2r (imm : Word)
  /-- INC2r, byte 0x61 (R100). -/
  | inc2r
  /-- POP2r, byte 0x62 (R101). -/
  | pop2r
  /-- DUP2r, byte 0x63 (R102). -/
  | dup2r
  /-- NIP2r, byte 0x64 (R103). -/
  | nip2r
  /-- SWP2r, byte 0x65 (R104). -/
  | swp2r
  /-- OVR2r, byte 0x66 (R105). -/
  | ovr2r
  /-- ROT2r, byte 0x67 (R106). -/
  | rot2r
  /-- EQU2r, byte 0x68 (R111). -/
  | equ2r
  /-- NEQ2r, byte 0x69 (R112). -/
  | neq2r
  /-- GTH2r, byte 0x6A (R113). -/
  | gth2r
  /-- LTH2r, byte 0x6B (R114). -/
  | lth2r
  /-- JMP2r, byte 0x6C (R121). -/
  | jmp2r
  /-- JCN2r, byte 0x6D (R122). -/
  | jcn2r
  /-- JSR2r, byte 0x6E (R123). -/
  | jsr2r
  /-- STH2r, byte 0x6F (R130). -/
  | sth2r
  /-- LDZ2r, byte 0x70 (R136). -/
  | ldz2r
  /-- STZ2r, byte 0x71 (R137). -/
  | stz2r
  /-- LDR2r, byte 0x72 (R138). -/
  | ldr2r
  /-- STR2r, byte 0x73 (R139). -/
  | str2r
  /-- LDA2r, byte 0x74 (R140). -/
  | lda2r
  /-- STA2r, byte 0x75 (R141). -/
  | sta2r
  /-- DEI2r, byte 0x76 (R150). -/
  | dei2r
  /-- DEO2r, byte 0x77 (R151). -/
  | deo2r
  /-- ADD2r, byte 0x78 (R161). -/
  | add2r
  /-- SUB2r, byte 0x79 (R162). -/
  | sub2r
  /-- MUL2r, byte 0x7A (R163). -/
  | mul2r
  /-- DIV2r, byte 0x7B (R164). -/
  | div2r
  /-- AND2r, byte 0x7C (R165). -/
  | and2r
  /-- ORA2r, byte 0x7D (R166). -/
  | ora2r
  /-- EOR2r, byte 0x7E (R167). -/
  | eor2r
  /-- SFT2r, byte 0x7F (R175). -/
  | sft2r
  /-- LITk, byte 0x80 (R93). -/
  | litk (imm : Byte)
  /-- INCk, byte 0x81 (R100). -/
  | inck
  /-- POPk, byte 0x82 (R101). -/
  | popk
  /-- DUPk, byte 0x83 (R102). -/
  | dupk
  /-- NIPk, byte 0x84 (R103). -/
  | nipk
  /-- SWPk, byte 0x85 (R104). -/
  | swpk
  /-- OVRk, byte 0x86 (R105). -/
  | ovrk
  /-- ROTk, byte 0x87 (R106). -/
  | rotk
  /-- EQUk, byte 0x88 (R111). -/
  | equk
  /-- NEQk, byte 0x89 (R112). -/
  | neqk
  /-- GTHk, byte 0x8A (R113). -/
  | gthk
  /-- LTHk, byte 0x8B (R114). -/
  | lthk
  /-- JMPk, byte 0x8C (R121). -/
  | jmpk
  /-- JCNk, byte 0x8D (R122). -/
  | jcnk
  /-- JSRk, byte 0x8E (R123). -/
  | jsrk
  /-- STHk, byte 0x8F (R130). -/
  | sthk
  /-- LDZk, byte 0x90 (R136). -/
  | ldzk
  /-- STZk, byte 0x91 (R137). -/
  | stzk
  /-- LDRk, byte 0x92 (R138). -/
  | ldrk
  /-- STRk, byte 0x93 (R139). -/
  | strk
  /-- LDAk, byte 0x94 (R140). -/
  | ldak
  /-- STAk, byte 0x95 (R141). -/
  | stak
  /-- DEIk, byte 0x96 (R150). -/
  | deik
  /-- DEOk, byte 0x97 (R151). -/
  | deok
  /-- ADDk, byte 0x98 (R161). -/
  | addk
  /-- SUBk, byte 0x99 (R162). -/
  | subk
  /-- MULk, byte 0x9A (R163). -/
  | mulk
  /-- DIVk, byte 0x9B (R164). -/
  | divk
  /-- ANDk, byte 0x9C (R165). -/
  | andk
  /-- ORAk, byte 0x9D (R166). -/
  | orak
  /-- EORk, byte 0x9E (R167). -/
  | eork
  /-- SFTk, byte 0x9F (R175). -/
  | sftk
  /-- LIT2k, byte 0xA0 (R93). -/
  | lit2k (imm : Word)
  /-- INC2k, byte 0xA1 (R100). -/
  | inc2k
  /-- POP2k, byte 0xA2 (R101). -/
  | pop2k
  /-- DUP2k, byte 0xA3 (R102). -/
  | dup2k
  /-- NIP2k, byte 0xA4 (R103). -/
  | nip2k
  /-- SWP2k, byte 0xA5 (R104). -/
  | swp2k
  /-- OVR2k, byte 0xA6 (R105). -/
  | ovr2k
  /-- ROT2k, byte 0xA7 (R106). -/
  | rot2k
  /-- EQU2k, byte 0xA8 (R111). -/
  | equ2k
  /-- NEQ2k, byte 0xA9 (R112). -/
  | neq2k
  /-- GTH2k, byte 0xAA (R113). -/
  | gth2k
  /-- LTH2k, byte 0xAB (R114). -/
  | lth2k
  /-- JMP2k, byte 0xAC (R121). -/
  | jmp2k
  /-- JCN2k, byte 0xAD (R122). -/
  | jcn2k
  /-- JSR2k, byte 0xAE (R123). -/
  | jsr2k
  /-- STH2k, byte 0xAF (R130). -/
  | sth2k
  /-- LDZ2k, byte 0xB0 (R136). -/
  | ldz2k
  /-- STZ2k, byte 0xB1 (R137). -/
  | stz2k
  /-- LDR2k, byte 0xB2 (R138). -/
  | ldr2k
  /-- STR2k, byte 0xB3 (R139). -/
  | str2k
  /-- LDA2k, byte 0xB4 (R140). -/
  | lda2k
  /-- STA2k, byte 0xB5 (R141). -/
  | sta2k
  /-- DEI2k, byte 0xB6 (R150). -/
  | dei2k
  /-- DEO2k, byte 0xB7 (R151). -/
  | deo2k
  /-- ADD2k, byte 0xB8 (R161). -/
  | add2k
  /-- SUB2k, byte 0xB9 (R162). -/
  | sub2k
  /-- MUL2k, byte 0xBA (R163). -/
  | mul2k
  /-- DIV2k, byte 0xBB (R164). -/
  | div2k
  /-- AND2k, byte 0xBC (R165). -/
  | and2k
  /-- ORA2k, byte 0xBD (R166). -/
  | ora2k
  /-- EOR2k, byte 0xBE (R167). -/
  | eor2k
  /-- SFT2k, byte 0xBF (R175). -/
  | sft2k
  /-- LITkr, byte 0xC0 (R93). -/
  | litkr (imm : Byte)
  /-- INCkr, byte 0xC1 (R100). -/
  | inckr
  /-- POPkr, byte 0xC2 (R101). -/
  | popkr
  /-- DUPkr, byte 0xC3 (R102). -/
  | dupkr
  /-- NIPkr, byte 0xC4 (R103). -/
  | nipkr
  /-- SWPkr, byte 0xC5 (R104). -/
  | swpkr
  /-- OVRkr, byte 0xC6 (R105). -/
  | ovrkr
  /-- ROTkr, byte 0xC7 (R106). -/
  | rotkr
  /-- EQUkr, byte 0xC8 (R111). -/
  | equkr
  /-- NEQkr, byte 0xC9 (R112). -/
  | neqkr
  /-- GTHkr, byte 0xCA (R113). -/
  | gthkr
  /-- LTHkr, byte 0xCB (R114). -/
  | lthkr
  /-- JMPkr, byte 0xCC (R121). -/
  | jmpkr
  /-- JCNkr, byte 0xCD (R122). -/
  | jcnkr
  /-- JSRkr, byte 0xCE (R123). -/
  | jsrkr
  /-- STHkr, byte 0xCF (R130). -/
  | sthkr
  /-- LDZkr, byte 0xD0 (R136). -/
  | ldzkr
  /-- STZkr, byte 0xD1 (R137). -/
  | stzkr
  /-- LDRkr, byte 0xD2 (R138). -/
  | ldrkr
  /-- STRkr, byte 0xD3 (R139). -/
  | strkr
  /-- LDAkr, byte 0xD4 (R140). -/
  | ldakr
  /-- STAkr, byte 0xD5 (R141). -/
  | stakr
  /-- DEIkr, byte 0xD6 (R150). -/
  | deikr
  /-- DEOkr, byte 0xD7 (R151). -/
  | deokr
  /-- ADDkr, byte 0xD8 (R161). -/
  | addkr
  /-- SUBkr, byte 0xD9 (R162). -/
  | subkr
  /-- MULkr, byte 0xDA (R163). -/
  | mulkr
  /-- DIVkr, byte 0xDB (R164). -/
  | divkr
  /-- ANDkr, byte 0xDC (R165). -/
  | andkr
  /-- ORAkr, byte 0xDD (R166). -/
  | orakr
  /-- EORkr, byte 0xDE (R167). -/
  | eorkr
  /-- SFTkr, byte 0xDF (R175). -/
  | sftkr
  /-- LIT2kr, byte 0xE0 (R93). -/
  | lit2kr (imm : Word)
  /-- INC2kr, byte 0xE1 (R100). -/
  | inc2kr
  /-- POP2kr, byte 0xE2 (R101). -/
  | pop2kr
  /-- DUP2kr, byte 0xE3 (R102). -/
  | dup2kr
  /-- NIP2kr, byte 0xE4 (R103). -/
  | nip2kr
  /-- SWP2kr, byte 0xE5 (R104). -/
  | swp2kr
  /-- OVR2kr, byte 0xE6 (R105). -/
  | ovr2kr
  /-- ROT2kr, byte 0xE7 (R106). -/
  | rot2kr
  /-- EQU2kr, byte 0xE8 (R111). -/
  | equ2kr
  /-- NEQ2kr, byte 0xE9 (R112). -/
  | neq2kr
  /-- GTH2kr, byte 0xEA (R113). -/
  | gth2kr
  /-- LTH2kr, byte 0xEB (R114). -/
  | lth2kr
  /-- JMP2kr, byte 0xEC (R121). -/
  | jmp2kr
  /-- JCN2kr, byte 0xED (R122). -/
  | jcn2kr
  /-- JSR2kr, byte 0xEE (R123). -/
  | jsr2kr
  /-- STH2kr, byte 0xEF (R130). -/
  | sth2kr
  /-- LDZ2kr, byte 0xF0 (R136). -/
  | ldz2kr
  /-- STZ2kr, byte 0xF1 (R137). -/
  | stz2kr
  /-- LDR2kr, byte 0xF2 (R138). -/
  | ldr2kr
  /-- STR2kr, byte 0xF3 (R139). -/
  | str2kr
  /-- LDA2kr, byte 0xF4 (R140). -/
  | lda2kr
  /-- STA2kr, byte 0xF5 (R141). -/
  | sta2kr
  /-- DEI2kr, byte 0xF6 (R150). -/
  | dei2kr
  /-- DEO2kr, byte 0xF7 (R151). -/
  | deo2kr
  /-- ADD2kr, byte 0xF8 (R161). -/
  | add2kr
  /-- SUB2kr, byte 0xF9 (R162). -/
  | sub2kr
  /-- MUL2kr, byte 0xFA (R163). -/
  | mul2kr
  /-- DIV2kr, byte 0xFB (R164). -/
  | div2kr
  /-- AND2kr, byte 0xFC (R165). -/
  | and2kr
  /-- ORA2kr, byte 0xFD (R166). -/
  | ora2kr
  /-- EOR2kr, byte 0xFE (R167). -/
  | eor2kr
  /-- SFT2kr, byte 0xFF (R175). -/
  | sft2kr
  deriving DecidableEq, Repr

end Sys2Proof
end

