-- ==== Sys2Proof/WellFormed.lean ====
section
/-! DEFINITION. Which instructions and host transactions are well formed. -/

namespace Sys2Proof

/-- Every instruction is well formed: there are no illegal, reserved or custom encodings
(spec/30_encoding.md R77), and a literal's type is its width (R75). -/
def Instr.wf (_ : Instr) : Bool := true

/-- A host transaction is well formed unless it loads an image that does not fit above the origin
(spec/20_memory.md R48, decision D20). -/
def HostCommand.wf : HostCommand → Bool
  | .loadImage img => img.length ≤ Machine.imageMaxLength
  | .reset _ => true
  | .run _ => true
  | .injectEvent _ _ => true

end Sys2Proof
end

