-- ==== Sys2Proof/Decode.lean ====
section
/-! DEFINITION. From bytes to instructions and back (spec/30_encoding.md R70 to R79). The decoder is total:
every opcode byte names an instruction (R72, R77), and the only input it rejects is a list that ends before
the instruction does. -/

namespace Sys2Proof

/-- Why a list of bytes is no instruction. -/
inductive DecodeError where
  /-- No byte at all. -/
  | noOpcode
  /-- The list ends inside the literal of a LIT (30_encoding.md R74). -/
  | literalCutShort
  deriving DecidableEq, Repr

/-- `op[4:0]`, the number of the base operation (30_encoding.md R71). -/
def baseNumber (op : Byte) : Nat := (op &&& 0x1F#8).toNat

/-- The base operation of a number (30_encoding.md R73). -/
def baseOf (n : Nat) : Base :=
  match n with
  | 1 => .inc
  | 2 => .pop
  | 3 => .dup
  | 4 => .nip
  | 5 => .swp
  | 6 => .ovr
  | 7 => .rot
  | 8 => .equ
  | 9 => .neq
  | 10 => .gth
  | 11 => .lth
  | 12 => .jmp
  | 13 => .jcn
  | 14 => .jsr
  | 15 => .sth
  | 16 => .ldz
  | 17 => .stz
  | 18 => .ldr
  | 19 => .str
  | 20 => .lda
  | 21 => .sta
  | 22 => .dei
  | 23 => .deo
  | 24 => .add
  | 25 => .sub
  | 26 => .mul
  | 27 => .div
  | 28 => .and
  | 29 => .ora
  | 30 => .eor
  | 31 => .sft
  | _ => .lit

/-- The number of a base operation (30_encoding.md R73). -/
def Base.number : Base → Nat
  | .lit => 0
  | .inc => 1
  | .pop => 2
  | .dup => 3
  | .nip => 4
  | .swp => 5
  | .ovr => 6
  | .rot => 7
  | .equ => 8
  | .neq => 9
  | .gth => 10
  | .lth => 11
  | .jmp => 12
  | .jcn => 13
  | .jsr => 14
  | .sth => 15
  | .ldz => 16
  | .stz => 17
  | .ldr => 18
  | .str => 19
  | .lda => 20
  | .sta => 21
  | .dei => 22
  | .deo => 23
  | .add => 24
  | .sub => 25
  | .mul => 26
  | .div => 27
  | .and => 28
  | .ora => 29
  | .eor => 30
  | .sft => 31

/-- The mode flags of an opcode byte: short 0x20, return 0x40, keep 0x80 (30_encoding.md R71). -/
def modeOf (op : Byte) : Mode :=
  { short := op &&& 0x20#8 != 0#8, ret := op &&& 0x40#8 != 0#8, keep := op &&& 0x80#8 != 0#8 }

/-- `decode(op)`, the four fields of an opcode byte (30_encoding.md R72). It does not know about the break
byte. -/
def decodeFields (op : Byte) : Base × Mode := (baseOf (baseNumber op), modeOf op)

/-- `encode(b, s, r, k) = b + 32*s + 64*r + 128*k` (30_encoding.md R72). -/
def encodeFields (b : Base) (m : Mode) : Byte :=
  BitVec.ofNat 8 (b.number + 32 * m.short.toNat + 64 * m.ret.toNat + 128 * m.keep.toNat)

/-- One row of the opcode map, its columns in the order of 30_encoding.md R79: none, 2, r, 2r, k, 2k, kr,
2kr. -/
def Mode.pick (m : Mode) (i0 i2 ir i2r ik i2k ikr i2kr : Instr) : Instr :=
  match m.keep, m.ret, m.short with
  | false, false, false => i0
  | false, false, true => i2
  | false, true, false => ir
  | false, true, true => i2r
  | true, false, false => ik
  | true, false, true => i2k
  | true, true, false => ikr
  | true, true, true => i2kr

/-- The opcode map by fields (30_encoding.md R79, R76): the instruction of a base operation and mode flags.
`lit8` and `lit16` are the literal in byte and in short mode; every base operation but LIT ignores them. -/
def Instr.ofFields (b : Base) (m : Mode) (lit8 : Byte) (lit16 : Word) : Instr :=
  match b with
  | .lit => m.pick .brk (.lit2 lit16) (.litr lit8) (.lit2r lit16) (.litk lit8) (.lit2k lit16) (.litkr lit8) (.lit2kr lit16)
  | .inc => m.pick .inc .inc2 .incr .inc2r .inck .inc2k .inckr .inc2kr
  | .pop => m.pick .pop .pop2 .popr .pop2r .popk .pop2k .popkr .pop2kr
  | .dup => m.pick .dup .dup2 .dupr .dup2r .dupk .dup2k .dupkr .dup2kr
  | .nip => m.pick .nip .nip2 .nipr .nip2r .nipk .nip2k .nipkr .nip2kr
  | .swp => m.pick .swp .swp2 .swpr .swp2r .swpk .swp2k .swpkr .swp2kr
  | .ovr => m.pick .ovr .ovr2 .ovrr .ovr2r .ovrk .ovr2k .ovrkr .ovr2kr
  | .rot => m.pick .rot .rot2 .rotr .rot2r .rotk .rot2k .rotkr .rot2kr
  | .equ => m.pick .equ .equ2 .equr .equ2r .equk .equ2k .equkr .equ2kr
  | .neq => m.pick .neq .neq2 .neqr .neq2r .neqk .neq2k .neqkr .neq2kr
  | .gth => m.pick .gth .gth2 .gthr .gth2r .gthk .gth2k .gthkr .gth2kr
  | .lth => m.pick .lth .lth2 .lthr .lth2r .lthk .lth2k .lthkr .lth2kr
  | .jmp => m.pick .jmp .jmp2 .jmpr .jmp2r .jmpk .jmp2k .jmpkr .jmp2kr
  | .jcn => m.pick .jcn .jcn2 .jcnr .jcn2r .jcnk .jcn2k .jcnkr .jcn2kr
  | .jsr => m.pick .jsr .jsr2 .jsrr .jsr2r .jsrk .jsr2k .jsrkr .jsr2kr
  | .sth => m.pick .sth .sth2 .sthr .sth2r .sthk .sth2k .sthkr .sth2kr
  | .ldz => m.pick .ldz .ldz2 .ldzr .ldz2r .ldzk .ldz2k .ldzkr .ldz2kr
  | .stz => m.pick .stz .stz2 .stzr .stz2r .stzk .stz2k .stzkr .stz2kr
  | .ldr => m.pick .ldr .ldr2 .ldrr .ldr2r .ldrk .ldr2k .ldrkr .ldr2kr
  | .str => m.pick .str .str2 .strr .str2r .strk .str2k .strkr .str2kr
  | .lda => m.pick .lda .lda2 .ldar .lda2r .ldak .lda2k .ldakr .lda2kr
  | .sta => m.pick .sta .sta2 .star .sta2r .stak .sta2k .stakr .sta2kr
  | .dei => m.pick .dei .dei2 .deir .dei2r .deik .dei2k .deikr .dei2kr
  | .deo => m.pick .deo .deo2 .deor .deo2r .deok .deo2k .deokr .deo2kr
  | .add => m.pick .add .add2 .addr .add2r .addk .add2k .addkr .add2kr
  | .sub => m.pick .sub .sub2 .subr .sub2r .subk .sub2k .subkr .sub2kr
  | .mul => m.pick .mul .mul2 .mulr .mul2r .mulk .mul2k .mulkr .mul2kr
  | .div => m.pick .div .div2 .divr .div2r .divk .div2k .divkr .div2kr
  | .and => m.pick .and .and2 .andr .and2r .andk .and2k .andkr .and2kr
  | .ora => m.pick .ora .ora2 .orar .ora2r .orak .ora2k .orakr .ora2kr
  | .eor => m.pick .eor .eor2 .eorr .eor2r .eork .eor2k .eorkr .eor2kr
  | .sft => m.pick .sft .sft2 .sftr .sft2r .sftk .sft2k .sftkr .sft2kr

/-- The instruction of a base operation and mode flags, a literal (which only LIT has) being 0. -/
def Instr.ofOp (b : Base) (m : Mode) : Instr := Instr.ofFields b m 0 0

/-- The opcode byte of an instruction, the column `match` of spec/opcode_table.json. -/
def Instr.opcode : Instr → Byte
  | .brk => 0x00
  | .inc => 0x01
  | .pop => 0x02
  | .dup => 0x03
  | .nip => 0x04
  | .swp => 0x05
  | .ovr => 0x06
  | .rot => 0x07
  | .equ => 0x08
  | .neq => 0x09
  | .gth => 0x0A
  | .lth => 0x0B
  | .jmp => 0x0C
  | .jcn => 0x0D
  | .jsr => 0x0E
  | .sth => 0x0F
  | .ldz => 0x10
  | .stz => 0x11
  | .ldr => 0x12
  | .str => 0x13
  | .lda => 0x14
  | .sta => 0x15
  | .dei => 0x16
  | .deo => 0x17
  | .add => 0x18
  | .sub => 0x19
  | .mul => 0x1A
  | .div => 0x1B
  | .and => 0x1C
  | .ora => 0x1D
  | .eor => 0x1E
  | .sft => 0x1F
  | .lit2 _ => 0x20
  | .inc2 => 0x21
  | .pop2 => 0x22
  | .dup2 => 0x23
  | .nip2 => 0x24
  | .swp2 => 0x25
  | .ovr2 => 0x26
  | .rot2 => 0x27
  | .equ2 => 0x28
  | .neq2 => 0x29
  | .gth2 => 0x2A
  | .lth2 => 0x2B
  | .jmp2 => 0x2C
  | .jcn2 => 0x2D
  | .jsr2 => 0x2E
  | .sth2 => 0x2F
  | .ldz2 => 0x30
  | .stz2 => 0x31
  | .ldr2 => 0x32
  | .str2 => 0x33
  | .lda2 => 0x34
  | .sta2 => 0x35
  | .dei2 => 0x36
  | .deo2 => 0x37
  | .add2 => 0x38
  | .sub2 => 0x39
  | .mul2 => 0x3A
  | .div2 => 0x3B
  | .and2 => 0x3C
  | .ora2 => 0x3D
  | .eor2 => 0x3E
  | .sft2 => 0x3F
  | .litr _ => 0x40
  | .incr => 0x41
  | .popr => 0x42
  | .dupr => 0x43
  | .nipr => 0x44
  | .swpr => 0x45
  | .ovrr => 0x46
  | .rotr => 0x47
  | .equr => 0x48
  | .neqr => 0x49
  | .gthr => 0x4A
  | .lthr => 0x4B
  | .jmpr => 0x4C
  | .jcnr => 0x4D
  | .jsrr => 0x4E
  | .sthr => 0x4F
  | .ldzr => 0x50
  | .stzr => 0x51
  | .ldrr => 0x52
  | .strr => 0x53
  | .ldar => 0x54
  | .star => 0x55
  | .deir => 0x56
  | .deor => 0x57
  | .addr => 0x58
  | .subr => 0x59
  | .mulr => 0x5A
  | .divr => 0x5B
  | .andr => 0x5C
  | .orar => 0x5D
  | .eorr => 0x5E
  | .sftr => 0x5F
  | .lit2r _ => 0x60
  | .inc2r => 0x61
  | .pop2r => 0x62
  | .dup2r => 0x63
  | .nip2r => 0x64
  | .swp2r => 0x65
  | .ovr2r => 0x66
  | .rot2r => 0x67
  | .equ2r => 0x68
  | .neq2r => 0x69
  | .gth2r => 0x6A
  | .lth2r => 0x6B
  | .jmp2r => 0x6C
  | .jcn2r => 0x6D
  | .jsr2r => 0x6E
  | .sth2r => 0x6F
  | .ldz2r => 0x70
  | .stz2r => 0x71
  | .ldr2r => 0x72
  | .str2r => 0x73
  | .lda2r => 0x74
  | .sta2r => 0x75
  | .dei2r => 0x76
  | .deo2r => 0x77
  | .add2r => 0x78
  | .sub2r => 0x79
  | .mul2r => 0x7A
  | .div2r => 0x7B
  | .and2r => 0x7C
  | .ora2r => 0x7D
  | .eor2r => 0x7E
  | .sft2r => 0x7F
  | .litk _ => 0x80
  | .inck => 0x81
  | .popk => 0x82
  | .dupk => 0x83
  | .nipk => 0x84
  | .swpk => 0x85
  | .ovrk => 0x86
  | .rotk => 0x87
  | .equk => 0x88
  | .neqk => 0x89
  | .gthk => 0x8A
  | .lthk => 0x8B
  | .jmpk => 0x8C
  | .jcnk => 0x8D
  | .jsrk => 0x8E
  | .sthk => 0x8F
  | .ldzk => 0x90
  | .stzk => 0x91
  | .ldrk => 0x92
  | .strk => 0x93
  | .ldak => 0x94
  | .stak => 0x95
  | .deik => 0x96
  | .deok => 0x97
  | .addk => 0x98
  | .subk => 0x99
  | .mulk => 0x9A
  | .divk => 0x9B
  | .andk => 0x9C
  | .orak => 0x9D
  | .eork => 0x9E
  | .sftk => 0x9F
  | .lit2k _ => 0xA0
  | .inc2k => 0xA1
  | .pop2k => 0xA2
  | .dup2k => 0xA3
  | .nip2k => 0xA4
  | .swp2k => 0xA5
  | .ovr2k => 0xA6
  | .rot2k => 0xA7
  | .equ2k => 0xA8
  | .neq2k => 0xA9
  | .gth2k => 0xAA
  | .lth2k => 0xAB
  | .jmp2k => 0xAC
  | .jcn2k => 0xAD
  | .jsr2k => 0xAE
  | .sth2k => 0xAF
  | .ldz2k => 0xB0
  | .stz2k => 0xB1
  | .ldr2k => 0xB2
  | .str2k => 0xB3
  | .lda2k => 0xB4
  | .sta2k => 0xB5
  | .dei2k => 0xB6
  | .deo2k => 0xB7
  | .add2k => 0xB8
  | .sub2k => 0xB9
  | .mul2k => 0xBA
  | .div2k => 0xBB
  | .and2k => 0xBC
  | .ora2k => 0xBD
  | .eor2k => 0xBE
  | .sft2k => 0xBF
  | .litkr _ => 0xC0
  | .inckr => 0xC1
  | .popkr => 0xC2
  | .dupkr => 0xC3
  | .nipkr => 0xC4
  | .swpkr => 0xC5
  | .ovrkr => 0xC6
  | .rotkr => 0xC7
  | .equkr => 0xC8
  | .neqkr => 0xC9
  | .gthkr => 0xCA
  | .lthkr => 0xCB
  | .jmpkr => 0xCC
  | .jcnkr => 0xCD
  | .jsrkr => 0xCE
  | .sthkr => 0xCF
  | .ldzkr => 0xD0
  | .stzkr => 0xD1
  | .ldrkr => 0xD2
  | .strkr => 0xD3
  | .ldakr => 0xD4
  | .stakr => 0xD5
  | .deikr => 0xD6
  | .deokr => 0xD7
  | .addkr => 0xD8
  | .subkr => 0xD9
  | .mulkr => 0xDA
  | .divkr => 0xDB
  | .andkr => 0xDC
  | .orakr => 0xDD
  | .eorkr => 0xDE
  | .sftkr => 0xDF
  | .lit2kr _ => 0xE0
  | .inc2kr => 0xE1
  | .pop2kr => 0xE2
  | .dup2kr => 0xE3
  | .nip2kr => 0xE4
  | .swp2kr => 0xE5
  | .ovr2kr => 0xE6
  | .rot2kr => 0xE7
  | .equ2kr => 0xE8
  | .neq2kr => 0xE9
  | .gth2kr => 0xEA
  | .lth2kr => 0xEB
  | .jmp2kr => 0xEC
  | .jcn2kr => 0xED
  | .jsr2kr => 0xEE
  | .sth2kr => 0xEF
  | .ldz2kr => 0xF0
  | .stz2kr => 0xF1
  | .ldr2kr => 0xF2
  | .str2kr => 0xF3
  | .lda2kr => 0xF4
  | .sta2kr => 0xF5
  | .dei2kr => 0xF6
  | .deo2kr => 0xF7
  | .add2kr => 0xF8
  | .sub2kr => 0xF9
  | .mul2kr => 0xFA
  | .div2kr => 0xFB
  | .and2kr => 0xFC
  | .ora2kr => 0xFD
  | .eor2kr => 0xFE
  | .sft2kr => 0xFF

/-- The base operation of an instruction (30_encoding.md R71). -/
def Instr.base (i : Instr) : Base := (decodeFields i.opcode).1

/-- The mode flags of an instruction (30_encoding.md R71). -/
def Instr.mode (i : Instr) : Mode := (decodeFields i.opcode).2

/-- The literal's bytes, in the order they stand after the opcode byte (30_encoding.md R75, R45). -/
def Instr.literalBytes : Instr → List Byte
  | .lit2 imm => [Machine.hiByte imm, Machine.loByte imm]
  | .litr imm => [imm]
  | .lit2r imm => [Machine.hiByte imm, Machine.loByte imm]
  | .litk imm => [imm]
  | .lit2k imm => [Machine.hiByte imm, Machine.loByte imm]
  | .litkr imm => [imm]
  | .lit2kr imm => [Machine.hiByte imm, Machine.loByte imm]
  | _ => []

/-- The literal as the item LIT pushes, 0 for every other instruction (30_encoding.md R75). -/
def Instr.literal : Instr → Word
  | .lit2 imm => imm
  | .litr imm => Machine.zeroExtend imm
  | .lit2r imm => imm
  | .litk imm => Machine.zeroExtend imm
  | .lit2k imm => imm
  | .litkr imm => Machine.zeroExtend imm
  | .lit2kr imm => imm
  | _ => 0

/-- The length of the literal that follows an opcode byte: 0 but for LIT, where it is 1 or 2 by the short
flag (30_encoding.md R74). -/
def literalLength (op : Byte) : Nat :=
  if op = 0#8 then 0
  else if (decodeFields op).1 = .lit then (if (decodeFields op).2.short then 2 else 1)
  else 0

/-- The length of an instruction in bytes (30_encoding.md R70, R74). -/
def Instr.length (i : Instr) : Nat := 1 + literalLength i.opcode

/-- The instruction whose opcode byte is `op`, the next two bytes of the instruction stream being `b1` and
`b2`: a LIT takes one or both as its literal, every other instruction neither (30_encoding.md R74, R75). -/
def decodeAt (op b1 b2 : Byte) : Instr :=
  Instr.ofFields (decodeFields op).1 (decodeFields op).2 b1 (Machine.wordOf b1 b2)

/-- The instruction at the head of a list of bytes, and the rest of the list. Rejects only a list that is
too short for its instruction (30_encoding.md R74, R77). -/
def decode : List Byte → Except DecodeError (Instr × List Byte)
  | [] => .error .noOpcode
  | op :: rest =>
    match literalLength op, rest with
    | 0, rest => .ok (decodeAt op 0 0, rest)
    | 1, b1 :: rest => .ok (decodeAt op b1 0, rest)
    | 2, b1 :: b2 :: rest => .ok (decodeAt op b1 b2, rest)
    | _, _ => .error .literalCutShort

/-- The bytes of an instruction, as they lie in memory (30_encoding.md R70, R75, R79). -/
def encode (i : Instr) : List Byte := i.opcode :: i.literalBytes

/-- The bytes of an instruction whose bits are `w`, the first byte the least significant: the `nbits` that
the opcode table gives it, then zeros up to the longest instruction, 3 bytes (30_encoding.md R70). -/
def tableBytes (nbits w : Nat) : List Byte :=
  let v := w % 2 ^ nbits
  [BitVec.ofNat 8 v, BitVec.ofNat 8 (v / 256), BitVec.ofNat 8 (v / 65536)]

/-- The instruction the decoder reads from a row of spec/opcode_table.json: `nbits` bits with value `w`,
bit 0 the least significant bit of the first byte, every later bit 0. -/
def decodeTableWord (nbits w : Nat) : Option Instr :=
  match decode (tableBytes nbits w) with
  | .ok (i, _) => some i
  | .error _ => none

end Sys2Proof
end

