-- ==== Sys2Proof/Machine/HostSide.lean ====
section
/-! DEFINITION. The host's transactions on the core (spec/60_exceptions.md R190, R191, R196;
spec/20_memory.md R48; spec/70_reset_and_hazards.md R210, R213). -/

namespace Sys2Proof.Machine

/-- `LoadImage`: byte `i` of the image goes to the address after the one of byte `i - 1`, from `a` on
(20_memory.md R48). -/
def State.loadBytes (s : State) (a : Word) : List Byte → State
  | [] => s
  | b :: rest => (s.memWrite8 a b).loadBytes (a + 1) rest

/-- The start of `Run(a)`: the program counter and the status change, nothing else; the steps of the run are
steps of the machine (60_exceptions.md R190, 40_step_break_literal.md R95). -/
def State.startRun (s : State) (a : Word) : State := { s with pc := a, status := .running }

/-- The payload of an event: raw stores to the device surface, in order, with no hook called
(60_exceptions.md R191, decision D13). -/
def State.writePayload (s : State) : List (Byte × Byte) → State
  | [] => s
  | (a, v) :: rest => (s.setDevByte a v).writePayload rest

/-- The device address of a slot's first byte, `16 * d` (20_memory.md R54). -/
def slotOrigin (d : BitVec 4) : Byte := d ++ (0 : BitVec 4)

/-- `InjectEvent(d, payload)`: the payload is stored, then the slot's vector is read, and a run starts there
unless it is 0 (60_exceptions.md R191). -/
def State.injectEvent (s : State) (d : BitVec 4) (payload : List (Byte × Byte)) : State :=
  let t := s.writePayload payload
  let vec := t.devVector (slotOrigin d)
  if vec ≠ 0 then t.startRun vec else t

/-- `Reset()`: every piece of the core's state and the console output take their reset values
(70_reset_and_hazards.md R210, 10_state.md R32). DESIGN CHOICE (log entry 8): which host is bound, the state
of a host other than the reference one, and what the host has yet to do are the host's own and stay. -/
def State.resetCore (s : State) : State :=
  { State.reset with binding := s.binding, hostState := s.hostState, pending := s.pending }

/-- One transaction of the host (60_exceptions.md R196): Reset is legal in every state, the others only when
HALTED. -/
def transact (c : HostCommand) (s : State) : Host.Outcome State Fault Refusal :=
  match c with
  | .reset _ => .next s.resetCore
  | .loadImage img =>
    if s.status ≠ .halted then .refused .transactionNotLegal
    else if (HostCommand.loadImage img).wf then .next (s.loadBytes imageOrigin img)
    else .refused (.imageTooLong img.length)
  | .run a => if s.status ≠ .halted then .refused .transactionNotLegal else .next (s.startRun a)
  | .injectEvent d payload =>
    if s.status ≠ .halted then .refused .transactionNotLegal else .next (s.injectEvent d payload)

/-- The host's next transaction is a Reset and it makes it now: at once if the core does not run, and in the
middle of a run if it lets no more steps of it pass (60_exceptions.md R196: Reset is legal always). -/
def State.resetDue (s : State) : Bool :=
  match s.pending with
  | .reset after :: _ => after == 0 || s.status != .running
  | _ => false

/-- The host lets one more step of the run pass: a Reset that waits is one step nearer (log entry 8). -/
def State.letPass (s : State) : State :=
  match s.pending with
  | .reset (n + 1) :: rest => { s with pending := .reset n :: rest }
  | _ => s

/-- The host's turn: its next transaction, or nothing, and then the core stays idle (60_exceptions.md R189,
R205; 70_reset_and_hazards.md R211). -/
def hostTurn (s : State) : Host.Outcome State Fault Refusal :=
  match s.pending with
  | [] => .next s
  | c :: rest => transact c { s with pending := rest }

/-- A FAULTED core that the host does not reset has no next state (60_exceptions.md R185). -/
def faultedTurn (c : Cause) : Host.Outcome State Fault Refusal := .fault (.terminal c)

/-- `Boot(img)`: the transactions of a start-up, in their order (70_reset_and_hazards.md R213). -/
def bootCommands (img : List Byte) : List HostCommand := [.reset 0, .loadImage img, .run imageOrigin]

end Sys2Proof.Machine
end

