-- ==== Sys2Proof/Machine/Fetch.lean ====
section
/-! DEFINITION. The halt test and the fetch (spec/40_step_break_literal.md R90, R91; spec/20_memory.md
R59), and placing an instruction where the next step fetches it. -/

namespace Sys2Proof.Machine

/-- `HaltTest()`: the program counter is 0, or the byte it points at is 0x00 (40_step_break_literal.md R90). -/
def State.haltTest (s : State) : Bool := s.pc == 0 || s.memRead8 s.pc == 0

/-- The instruction at the program counter, read from memory now: its opcode byte and, for a LIT, the bytes
after it, addresses modulo 65536 (40_step_break_literal.md R91, R93; 20_memory.md R59). -/
def State.fetch (s : State) : Instr :=
  decodeAt (s.memRead8 s.pc) (s.memRead8 (s.pc + 1)) (s.memRead8 (s.pc + 2))

/-- Bytes written to memory one after the other from an address, modulo 65536. -/
def State.writeBytes (s : State) (a : Word) : List Byte → State
  | [] => s
  | b :: rest => (s.memWrite8 a b).writeBytes (a + 1) rest

/-- Where a placed instruction goes: at the program counter of a running machine, else at the image origin,
where a first run starts (70_reset_and_hazards.md R212); never at address 0, which is never executed (R220). -/
def State.placeAddress (s : State) : Word :=
  if s.status = .running ∧ s.pc ≠ 0 then s.pc else imageOrigin

/-- The state running at an address, with no Reset of the host before the next step. -/
def State.runningAt (s : State) (a : Word) : State :=
  { s.startRun a with pending := if (s.startRun a).resetDue then [] else s.pending }

/-- The state with the bytes of one instruction where the next step fetches, and running there. -/
def State.place (s : State) (bytes : List Byte) : State :=
  (s.runningAt s.placeAddress).writeBytes s.placeAddress bytes

end Sys2Proof.Machine
end

