-- ==== Sys2Proof/Machine/Step.lean ====
section
/-! DEFINITION. One step of the machine (spec/40_step_break_literal.md R91): a running core halts or runs the
instruction at its program counter; a halted or faulted one waits for the host
(spec/60_exceptions.md R185, R189); a Reset of the host is taken in every status
(spec/70_reset_and_hazards.md R210). -/

namespace Sys2Proof.Machine

/-- One step. In every status a Reset that is due (60_exceptions.md R196). Else, running: the halt test, then
the fetched instruction (40_step_break_literal.md R90, R91); halted: the host's next transaction; faulted:
nothing leads on (R185). -/
def step (s : State) : Host.Outcome State Fault Refusal :=
  if s.resetDue then hostTurn s
  else match s.status with
    | .running => if s.haltTest then .next s.letPass.halt else exec s.fetch s.letPass
    | .halted => hostTurn s
    | .faulted c => faultedTurn c

/-- The state with one instruction placed so that the next step runs it: its bytes where the step fetches, and
the machine running there, as after the host's LoadImage and Run (log entry 12). -/
def State.withFetchWord (s : State) (nbits w : Nat) : State := s.place (tableBytes nbits w)

end Sys2Proof.Machine
end

