-- ==== Sys2Proof/Safety.lean ====
section
/-! DEFINITION. The words the statements are made in: the content of a stack as a picture, the invariant of
every state between two steps, a state ready to run an instruction, and what an instruction leaves alone
(spec/00_scope.md R7, spec/10_state.md R11 to R15). -/

namespace Sys2Proof.Machine

/-- The lowest `n` bytes of a stack, bottom first. -/
def Stack.below (S : Stack) (n : Nat) : List Byte := (List.range n).map (Memory.read S.dat)

/-- The content of a stack, bottom to top (00_scope.md R7, 10_state.md R11). -/
def Stack.content (S : Stack) : List Byte := S.below S.ptr

/-- What pops see of a stack, bottom to top: its content, or the bytes below the keep cursor in keep mode
(10_state.md R18, 60_exceptions.md R182). -/
def Stack.view (S : Stack) : List Byte := S.below (if S.keep then S.kc else S.ptr)

/-- The content of one of the two stacks. -/
def State.content (s : State) (id : StackId) : List Byte := (s.stack id).content

/-- A stack between two instructions (10_state.md R12 to R15): canonical storage with index 255 never
occupied, pointer and keep cursor in 0 to 255, not in keep mode. -/
abbrev Stack.Ok (S : Stack) : Prop :=
  Memory.wf S.dat ∧ Memory.within S.dat stackMaxDepth ∧ S.ptr ≤ stackMaxDepth ∧ S.kc ≤ stackMaxDepth ∧
    S.keep = false

/-- The invariant of the machine: both stacks as above, both memories canonical and inside their address
spaces (10_state.md R12 to R15, R26, R27). -/
abbrev State.Inv (s : State) : Prop :=
  s.wst.Ok ∧ s.rst.Ok ∧ Memory.wf s.mem ∧ Memory.within s.mem memSize ∧ Memory.wf s.dev ∧
    Memory.within s.dev devSize

/-- A state in which the core runs, between two instructions: RUNNING, no stack in keep mode (10_state.md
R14, R23). -/
abbrev State.Ready (s : State) : Prop := s.status = .running ∧ s.wst.keep = false ∧ s.rst.keep = false

/-- Everything but the stacks and the program counter is the same in both states. -/
abbrev State.SameRest (s t : State) : Prop :=
  t.mem = s.mem ∧ t.dev = s.dev ∧ t.status = s.status ∧ t.out = s.out ∧ t.binding = s.binding ∧
    t.hostState = s.hostState ∧ t.pending = s.pending

/-- Everything but the stacks, the program counter and the status is the same in both states. -/
abbrev State.SameStores (s t : State) : Prop :=
  t.mem = s.mem ∧ t.dev = s.dev ∧ t.out = s.out ∧ t.binding = s.binding ∧ t.hostState = s.hostState ∧
    t.pending = s.pending

/-- The core and the console output are as after reset, in everything the spec gives a reset value
(10_state.md R32, 70_reset_and_hazards.md R210). -/
abbrev State.CoreIsReset (t : State) : Prop :=
  t.wst.ptr = 0 ∧ t.rst.ptr = 0 ∧ t.wst.keep = false ∧ t.rst.keep = false ∧ (∀ a, Memory.read t.mem a = 0) ∧
    (∀ a, Memory.read t.dev a = 0) ∧ t.status = .halted ∧ t.out = []

/-- From `s` to `t` the active stack's content became `c`, the companion stack did not change at all, no
stack is in keep mode, and without the keep flag the keep cursor did not move either. -/
abbrev SrcBecomes (m : Mode) (s t : State) (c : List Byte) : Prop :=
  t.content m.src = c ∧ t.stack m.dst = s.stack m.dst ∧ (t.stack m.src).keep = false ∧
    (m.keep = false → (t.stack m.src).kc = (s.stack m.src).kc)

end Sys2Proof.Machine

namespace Sys2Proof

/-- The bytes of an item on a stack or in memory, the deeper byte first (20_memory.md R45). -/
def Mode.bytes (m : Mode) (v : Word) : List Byte :=
  if m.short then [Machine.hiByte v, Machine.loByte v] else [Machine.loByte v]

/-- `v` is in the range of the operand width (40_step_break_literal.md R92). -/
abbrev Mode.Fits (m : Mode) (v : Word) : Prop := m.trunc v = v

/-- What the pops of an instruction leave of a content `base ++ operands` (10_state.md R18, R19): all of it
in keep mode, else `base`. -/
def Mode.left (m : Mode) (base operands : List Byte) : List Byte :=
  if m.keep then base ++ operands else base

end Sys2Proof

namespace Sys2Proof.Machine

/-! ### The shape of an instruction's completion -/

/-- The instruction of base operation `b` under flags `m` completes from `s`: the next state has `c` on the
active stack, the program counter moved past the opcode byte, and all else as before. -/
abbrev Completes (b : Base) (m : Mode) (s : State) (c : List Byte) : Prop :=
  ∃ t, exec (Instr.ofOp b m) s = .next t ∧ SrcBecomes m s t c ∧ t.pc = s.pc + 1 ∧ s.SameRest t

/-- `a -- f a`, in all eight flag variants: with the keep flag the operand stays below the result. `a` is an
item of the operand width; the room is what the pushes need (10_state.md R16, R17). -/
def TurnsOne (b : Base) (f : Mode → Word → List Byte) : Prop :=
  ∀ (m : Mode) (s : State) (base : List Byte) (a : Word), s.Ready → m.Fits a →
    s.content m.src = base ++ m.bytes a →
    (m.left base (m.bytes a)).length + (f m a).length ≤ 255 →
    Completes b m s (m.left base (m.bytes a) ++ f m a)

/-- `a b -- f a b`, `b` on top, in all eight flag variants. -/
def TurnsTwo (op : Base) (f : Mode → Word → Word → List Byte) : Prop :=
  ∀ (m : Mode) (s : State) (base : List Byte) (a b : Word), s.Ready → m.Fits a → m.Fits b →
    s.content m.src = base ++ (m.bytes a ++ m.bytes b) →
    (m.left base (m.bytes a ++ m.bytes b)).length + (f m a b).length ≤ 255 →
    Completes op m s (m.left base (m.bytes a ++ m.bytes b) ++ f m a b)

/-- `a b c -- f a b c`, `c` on top, in all eight flag variants. -/
def TurnsThree (op : Base) (f : Mode → Word → Word → Word → List Byte) : Prop :=
  ∀ (m : Mode) (s : State) (base : List Byte) (a b c : Word), s.Ready → m.Fits a → m.Fits b → m.Fits c →
    s.content m.src = base ++ (m.bytes a ++ m.bytes b ++ m.bytes c) →
    (m.left base (m.bytes a ++ m.bytes b ++ m.bytes c)).length + (f m a b c).length ≤ 255 →
    Completes op m s (m.left base (m.bytes a ++ m.bytes b ++ m.bytes c) ++ f m a b c)

/-- Where a jump by the item `a` goes, `pc` being the address of the jump's opcode byte: to `a` itself in
short mode, else to the signed offset from the byte after the opcode, modulo 65536 (43_control_flow.md
R120). -/
def landing (m : Mode) (pc a : Word) : Word :=
  if m.short then a else BitVec.ofInt 16 ((pc.toNat : Int) + 1 + (loByte a).toInt)

/-- The item in memory at `ea`, as bytes (20_memory.md R42, R45). -/
def State.itemAt (s : State) (m : Mode) (ea : Word) : List Byte :=
  if m.short then [s.memRead8 ea, s.memRead8 (ea + 1)] else [s.memRead8 ea]

/-- A load of the item at `ea` completes, the address operand on the stack being `operand`. -/
abbrev Loads (b : Base) (m : Mode) (s : State) (base operand : List Byte) (ea : Word) : Prop :=
  (m.left base operand).length + m.width ≤ 255 → Completes b m s (m.left base operand ++ s.itemAt m ea)

/-- A store of the item `v` at `ea` completes, the operands on the stack being `operands`: the bytes of `v`
stand at `ea`, the high byte first, and every other byte of memory is as before. -/
abbrev Stores (b : Base) (m : Mode) (s : State) (base operands : List Byte) (ea v : Word) : Prop :=
  ∃ t, exec (Instr.ofOp b m) s = .next t ∧ SrcBecomes m s t (m.left base operands) ∧ t.pc = s.pc + 1 ∧
    t.itemAt m ea = m.bytes v ∧
    (∀ x : Word, x ≠ ea → (m.short = true → x ≠ ea + 1) → t.memRead8 x = s.memRead8 x) ∧
    t.dev = s.dev ∧ t.status = s.status ∧ t.out = s.out ∧ t.binding = s.binding ∧
    t.hostState = s.hostState ∧ t.pending = s.pending

/-! ### The table of faults -/

/-- The widths of the pops from the active stack, in order, the first being the topmost item
(30_encoding.md R78). -/
def popWidths (b : Base) (m : Mode) : List Nat :=
  match b with
  | .lit => []
  | .inc | .pop | .dup | .jmp | .jsr | .sth => [m.width]
  | .nip | .swp | .ovr | .equ | .neq | .gth | .lth | .add | .sub | .mul | .div | .and | .ora | .eor =>
    [m.width, m.width]
  | .rot => [m.width, m.width, m.width]
  | .jcn => [m.width, 1]
  | .ldz | .ldr | .dei => [1]
  | .stz | .str | .deo | .sft => [1, m.width]
  | .lda => [2]
  | .sta => [2, m.width]

/-- The bytes popped from the active stack (60_exceptions.md R188). -/
def bytesPopped (b : Base) (m : Mode) : Nat := (popWidths b m).sum

/-- The bytes pushed (60_exceptions.md R188). -/
def bytesPushed (b : Base) (m : Mode) : Nat :=
  match b with
  | .pop | .jmp | .jcn | .stz | .str | .sta | .deo => 0
  | .lit | .inc | .nip | .sth | .ldz | .ldr | .lda | .dei | .add | .sub | .mul | .div | .and | .ora | .eor
  | .sft => m.width
  | .dup | .swp => 2 * m.width
  | .ovr | .rot => 3 * m.width
  | .equ | .neq | .gth | .lth => 1
  | .jsr => 2

/-- The stack the pushes go to (60_exceptions.md R188). -/
def pushedOn (b : Base) (m : Mode) : StackId :=
  match b with
  | .jsr | .sth => m.dst
  | _ => m.src

/-- The depth of the stack pushed on when the pushes begin: after the instruction's own pops if they are
from that stack and remove anything (60_exceptions.md R188). -/
def depthBeforePushes (b : Base) (m : Mode) (s : State) : Nat :=
  if pushedOn b m = m.src ∧ m.keep = false then (s.stack m.src).ptr - bytesPopped b m
  else (s.stack (pushedOn b m)).ptr

/-- How many of `depth` bytes the pops of the widths `ws` take before one of them finds too few. -/
def takenBeforeUnderflow : List Nat → Nat → Nat
  | [], _ => 0
  | w :: ws, depth => if w ≤ depth then w + takenBeforeUnderflow ws (depth - w) else 0

/-- The bytes stored in a slot by an event's payload: the last one for the address, else the old byte
(60_exceptions.md R191). -/
def payloadByte : List (Byte × Byte) → Byte → Byte → Byte
  | [], _, old => old
  | (a, v) :: rest, x, old => payloadByte rest x (if x = a then v else old)

/-- A sequence of pops, `true` a word and `false` a byte: the items in order and the stack after it; none if
one of them underflows (10_state.md R34). -/
def Stack.popMany (S : Stack) : List Bool → Option (List Word × Stack)
  | [] => some ([], S)
  | true :: ws => do
    let (v, T) ← S.pop16
    let (vs, U) ← T.popMany ws
    return (v :: vs, U)
  | false :: ws => do
    let (v, T) ← S.pop8
    let (vs, U) ← T.popMany ws
    return (zeroExtend v :: vs, U)

/-! ### States that no program can tell apart -/

/-- Two stacks with the same content; the storage above the pointer and the keep cursor may differ
(10_state.md R11, R13). -/
abbrev Stack.Alike (S T : Stack) : Prop := S.content = T.content ∧ S.keep = T.keep

/-- Two states that differ at most in what no rule reads: storage bytes at or above a pointer, and keep
cursors (10_state.md R11, R13). -/
abbrev State.Alike (s t : State) : Prop :=
  s.wst.Alike t.wst ∧ s.rst.Alike t.rst ∧ s.mem = t.mem ∧ s.dev = t.dev ∧ s.pc = t.pc ∧
    s.status = t.status ∧ s.out = t.out ∧ s.binding = t.binding ∧ s.hostState = t.hostState ∧
    s.pending = t.pending

/-- Two outcomes of the same kind, with alike states or the same reason. -/
def OutcomesAlike : Host.Outcome State Fault Refusal → Host.Outcome State Fault Refusal → Prop
  | .next s, .next t => s.Alike t
  | .fault a, .fault b => a = b
  | .refused a, .refused b => a = b
  | _, _ => False

end Sys2Proof.Machine
end

