-- ==== Sys2Proof/Certificates/Slice0/Obligations.lean ====
section
/-! DEFINITION. The statements about the machine, each from the rules its docstring names. -/

open Sys2Proof Sys2Proof.Machine

/-! ### Encoding -/

/-- R71, R72: the four fields of an opcode byte are its bits, `decode` and `encode` undo each other on every
byte and on every field tuple. Which base operation has which number is the spec's own decision D1 (log entry
18). -/
def Obligations.OpcodeFieldsRoundTrip : Prop :=
  (∀ op : Byte,
    (decodeFields op).1.number = op.toNat % 32 ∧ (decodeFields op).2.short = op.getLsbD 5 ∧
      (decodeFields op).2.ret = op.getLsbD 6 ∧ (decodeFields op).2.keep = op.getLsbD 7 ∧
      encodeFields (decodeFields op).1 (decodeFields op).2 = op) ∧
  ∀ (b : Base) (m : Mode),
    (encodeFields b m).toNat = b.number + 32 * m.short.toNat + 64 * m.ret.toNat + 128 * m.keep.toNat ∧
      decodeFields (encodeFields b m) = (b, m)

/-- R70, R75, R79: decoding the bytes of any instruction, literals at every value, gives the instruction and
leaves the bytes after it. The numbers of the base operations are the spec's own decision D1 (log entry 18);
that the literal is a part of the instruction is the model's (log entry 11). -/
def Obligations.DecodeOfEncode : Prop :=
  ∀ (i : Instr) (rest : List Byte), i.wf = true → decode (encode i ++ rest) = .ok (i, rest)

/-- R72, R77: what the decoder reads is what the encoder writes: no byte of the input is dropped or changed,
so every list of bytes has at most one reading. As above, log entries 18 and 11. -/
def Obligations.EncodeOfDecode : Prop :=
  ∀ (bytes rest : List Byte) (i : Instr), decode bytes = .ok (i, rest) → bytes = encode i ++ rest

/-- R70, R74: the length of an instruction follows from its opcode byte alone (1, or `2 + op[5]` for a LIT),
and the decoder rejects a list only if it is shorter than that. As above, log entries 18 and 11. -/
def Obligations.LengthFromOpcodeByte : Prop :=
  (∀ i : Instr, (encode i).length =
    if i.opcode = 0 then 1
    else if i.opcode.toNat % 32 = 0 then 2 + (i.opcode.getLsbD 5).toNat else 1) ∧
  ∀ (op : Byte) (rest : List Byte),
    (∃ e, decode (op :: rest) = .error e) ↔
      rest.length + 1 < (if op = 0 then 1
        else if op.toNat % 32 = 0 then 2 + (op.getLsbD 5).toNat else 1)

/-- R79, the table V-30 of 95_test_vectors.md: some opcode bytes, one or more of each family, and the
instructions they stand for. The numbers of the base operations are the spec's own decision D1 (log entry 18).
-/
def Obligations.SampleOpcodeBytes : Prop :=
  (decode [0x00] = .ok (.brk, []) ∧ decode [0x20, 0x12, 0x34] = .ok (.lit2 0x1234, []) ∧
    decode [0xC0, 0x05] = .ok (.litkr 0x05, []) ∧ decode [0x21] = .ok (.inc2, [])) ∧
  (decode [0xA8] = .ok (.equ2k, []) ∧ decode [0x6C] = .ok (.jmp2r, []) ∧ decode [0x4F] = .ok (.sthr, []) ∧
    decode [0xB5] = .ok (.sta2k, [])) ∧
  (decode [0x37] = .ok (.deo2, []) ∧ decode [0xB8] = .ok (.add2k, []) ∧ decode [0x5B] = .ok (.divr, []) ∧
    decode [0xFF] = .ok (.sft2kr, []))

/-! ### The stack unit -/

/-- R34: (a) a push and then a pop of the same width, not in keep mode, gives the value back and restores
pointer and content; (b) keep-mode pops followed by the same pops in normal mode give the same items twice,
and change neither pointer nor content; (c) the boundaries of overflow and underflow. -/
def Obligations.StackUnitLaws : Prop :=
  (∀ (S T : Stack) (v : Byte), S.keep = false → S.push8 v = some T →
    ∃ U, T.pop8 = some (v, U) ∧ U.ptr = S.ptr ∧ U.content = S.content) ∧
  (∀ (S T : Stack) (v : Word), S.keep = false → S.push16 v = some T →
    ∃ U, T.pop16 = some (v, U) ∧ U.ptr = S.ptr ∧ U.content = S.content) ∧
  (∀ (S T : Stack) (ws : List Bool) (vs : List Word), S.keep = false →
    S.enterKeep.popMany ws = some (vs, T) →
    T.ptr = S.ptr ∧ T.content = S.content ∧ ∃ U, T.leaveKeep.popMany ws = some (vs, U)) ∧
  (∀ (S : Stack) (v : Byte) (w : Word), S.ptr = 255 → S.push8 v = none ∧ S.push16 w = none) ∧
  ∀ S : Stack, S.ptr = 0 → S.keep = false → S.pop8 = none

/-- R16, R17: a push fails exactly when it would take the pointer past 255; else it stores the byte, or the
two bytes of the word with the high byte deeper, at the pointer, and changes nothing else. -/
def Obligations.PushStoresAtThePointer : Prop :=
  (∀ (S : Stack) (v : Byte), (S.push8 v = none ↔ 254 < S.ptr) ∧
    ∀ T, S.push8 v = some T → T.ptr = S.ptr + 1 ∧ T.kc = S.kc ∧ T.keep = S.keep ∧
      ∀ i, Memory.read T.dat i = if i = S.ptr then v else Memory.read S.dat i) ∧
  ∀ (S : Stack) (v : Word), (S.push16 v = none ↔ 253 < S.ptr) ∧
    ∀ T, S.push16 v = some T → T.ptr = S.ptr + 2 ∧ T.kc = S.kc ∧ T.keep = S.keep ∧
      ∀ i, Memory.read T.dat i =
        if i = S.ptr then hiByte v else if i = S.ptr + 1 then loByte v else Memory.read S.dat i

/-- R18, R19: a pop fails exactly when fewer bytes than asked lie below the position it reads from, the keep
cursor in keep mode and else the pointer; else it answers the bytes there, the high byte of a word being the
deeper one, moves that position and changes nothing else. That a keep-mode pop fails by the cursor and not by
the pointer is the spec's own decision D5 (log entry 22). -/
def Obligations.PopReadsBelowItsPosition : Prop :=
  ∀ S : Stack,
    let at_ := if S.keep then S.kc else S.ptr
    (S.pop8 = none ↔ at_ < 1) ∧ (S.pop16 = none ↔ at_ < 2) ∧
    (∀ v T, S.pop8 = some (v, T) → v = Memory.read S.dat (at_ - 1) ∧ T.dat = S.dat ∧ T.keep = S.keep ∧
      (if S.keep then T.kc = S.kc - 1 ∧ T.ptr = S.ptr else T.kc = S.kc ∧ T.ptr = S.ptr - 1)) ∧
    ∀ v T, S.pop16 = some (v, T) →
      hiByte v = Memory.read S.dat (at_ - 2) ∧ loByte v = Memory.read S.dat (at_ - 1) ∧
      T.dat = S.dat ∧ T.keep = S.keep ∧
      (if S.keep then T.kc = S.kc - 2 ∧ T.ptr = S.ptr else T.kc = S.kc ∧ T.ptr = S.ptr - 2)

/-- R20: EnterKeep takes the pointer into the keep cursor and sets the mark, on its stack only; ClearKeep
clears both marks and nothing else; an instruction's body begins with the one on the active stack exactly
where the keep flag is set, and ends, by a fault or not, with the other. -/
def Obligations.KeepModeBeginsAndEndsWithTheInstruction : Prop :=
  (∀ (s : State) (id : StackId),
    (s.enterKeep id).stack id = { s.stack id with kc := (s.stack id).ptr, keep := true } ∧
      (∀ other, other ≠ id → (s.enterKeep id).stack other = s.stack other)) ∧
  (∀ s : State, s.clearKeep =
    { s with wst := { s.wst with keep := false }, rst := { s.rst with keep := false } }) ∧
  (∀ (s : State) (m : Mode), s.begin m =
    if m.keep then { s with pc := s.pc + 1 }.enterKeep m.src else { s with pc := s.pc + 1 }) ∧
  ∀ (i : Instr) (s t : State), i ≠ .brk → exec i s = .next t → t.wst.keep = false ∧ t.rst.keep = false

/-! ### Memory and the device bus -/

/-- R42, R43: a word is read big-endian at `a` and `a + 1` modulo 65536, at 0xFFFF from 0xFFFF and 0x0000; a
byte write changes the byte at its address, no other byte, and nothing but memory. -/
def Obligations.WordReadsAreBigEndianAndByteWritesAreLocal : Prop :=
  ∀ (s : State) (a : Word) (b : Byte),
    (s.memRead16 a).toNat = 256 * (s.memRead8 a).toNat + (s.memRead8 (a + 1)).toNat ∧
    (s.memRead16 0xFFFF).toNat = 256 * (s.memRead8 0xFFFF).toNat + (s.memRead8 0x0000).toNat ∧
    (∀ x : Word, (s.memWrite8 a b).memRead8 x = if x = a then b else s.memRead8 x) ∧
    s.memWrite8 a b = { s with mem := (s.memWrite8 a b).mem }

/-- R44, R45: a word is written big-endian at `a` and `a + 1` modulo 65536; no other byte and nothing but
memory changes, and the word written is the word read. (The wrap of a write is the spec's inference from
that of a read: "the second address wraps like the read's".) -/
def Obligations.WordWritesAreBigEndianAndWrap : Prop :=
  ∀ (s : State) (a v : Word),
    (∀ x : Word, (s.memWrite16 a v).memRead8 x =
      if x = a then hiByte v else if x = a + 1 then loByte v else s.memRead8 x) ∧
    (s.memWrite16 a v).memRead16 a = v ∧ s.memWrite16 a v = { s with mem := (s.memWrite16 a v).mem }

/-- R54: the vector of a device address is the big-endian word at the origin of its slot, the first of the
slot's 16 addresses. That the read is raw, past the hook, is the spec's own decision D13 (log entry 27). -/
def Obligations.DeviceVectorIsTheSlotsFirstWord : Prop :=
  ∀ (s : State) (a : Byte),
    (s.devVector a).toNat =
      256 * (s.devByte (BitVec.ofNat 8 (16 * (a.toNat / 16)))).toNat +
        (s.devByte (BitVec.ofNat 8 (16 * (a.toNat / 16) + 1))).toNat

/-- R53, R55, R56: a device write stores the byte at its address and no other, whatever the host; then the
host's hook runs: the reference host appends the byte to the console output if the address is 0x18 and does
nothing else, another host takes its next state; nothing else of the machine changes. Store before hook and
what a hook may change are the spec's own decisions D8 and D14 (log entry 25); the other host is an open
parameter (log entry 9). -/
def Obligations.DeviceWriteStoresThenCallsTheHook : Prop :=
  ∀ (s : State) (a v : Byte),
    (∀ x : Byte, (s.devWrite a v).devByte x = if x = a then v else s.devByte x) ∧
    (s.binding = .reference → s.devWrite a v =
      { s with dev := (s.devWrite a v).dev, out := if a = 0x18 then s.out ++ [v] else s.out }) ∧
    (s.binding = .other → s.devWrite a v =
      { s with dev := (s.devWrite a v).dev,
               hostState := Config.hostWrite s.hostState (s.devWrite a v).dev a v })

/-- R52, R55, R156: a device read returns what the host's hook returns and leaves the device surface alone:
the stored byte, with nothing changed, for the reference host, so a byte written is the byte read back. That
DEI takes the hook's byte and what a hook may change are the spec's own decisions D9 and D14 (log entry 25);
the other host is an open parameter (log entry 9). -/
def Obligations.DeviceReadIsTheHooks : Prop :=
  ∀ (s : State) (a v : Byte),
    (s.binding = .reference → s.devRead a = (s.devByte a, s) ∧ ((s.devWrite a v).devRead a).1 = v) ∧
    (s.binding = .other → (s.devRead a).1 = (Config.hostRead s.hostState s.dev a).2 ∧
      (s.devRead a).2 = { s with hostState := (Config.hostRead s.hostState s.dev a).1 })

/-- R59: the fetch sees what was stored last: an instruction stored at the program counter is the one the next
step runs, with no action needed, unless a Reset of the host is due. `letPass` is the model's count of the
steps that a waiting Reset lets pass (log entry 8). -/
def Obligations.StoredInstructionIsTheOneFetched : Prop :=
  ∀ (s : State) (i : Instr), s.status = .running → s.pc ≠ 0 → s.resetDue = false →
    step (s.writeBytes s.pc (encode i)) = exec i (s.writeBytes s.pc (encode i)).letPass

/-! ### The step cycle, the halt and the faults -/

/-- R90: a running core whose program counter is 0 or points at a byte 0x00 becomes HALTED, and nothing else
changes; with any other program counter and byte the step does not halt. This is of every step at which no
Reset of the host is due (R210); `letPass` is the model's count of the steps that a waiting Reset lets pass
(log entry 8), and without one the state is the same. -/
def Obligations.HaltTestHaltsAndChangesNothingElse : Prop :=
  (∀ s : State, s.status = .running → s.resetDue = false → (s.pc = 0 ∨ s.memRead8 s.pc = 0) →
    step s = .next { s.letPass with status := .halted } ∧
      ((∀ n rest, s.pending ≠ .reset n :: rest) → step s = .next { s with status := .halted })) ∧
  ∀ s t : State, s.status = .running → s.resetDue = false → step s = .next t → t.status = .halted →
    s.pc = 0 ∨ s.memRead8 s.pc = 0

/-- R94: BRK halts the core and changes nothing else, the program counter keeping its address, and that is
what a step does at its byte 0x00 if no Reset of the host is due. That BRK has a meaning of its own beside the
halt test is the model's (log entry 13), and so is `letPass`, the count of a waiting Reset (log entry 8). -/
def Obligations.BrkHalts : Prop :=
  ∀ s : State, exec .brk s = .next { s with status := .halted } ∧
    (s.status = .running → s.resetDue = false → s.memRead8 s.pc = 0x00 → step s = exec .brk s.letPass)

/-- R91, R93: where the bytes at the program counter decode to an instruction and no Reset of the host is due,
a step of a running core is that instruction, from the state in which the program counter holds its address.
The step adds one thing: if the host's next transaction is a Reset that waits for `n + 1` steps, it then waits
for `n` (`letPass`, the model's, log entry 8); if it is no Reset, the step is the instruction alone. The wrap
of the addresses is the spec's own decision D3 (log entry 20); that the literal is read with the opcode byte
is the model's (log entry 11). -/
def Obligations.StepRunsTheDecodedInstruction : Prop :=
  ∀ (s : State) (i : Instr) (rest : List Byte), s.status = .running → s.pc ≠ 0 → s.resetDue = false →
    decode [s.memRead8 s.pc, s.memRead8 (s.pc + 1), s.memRead8 (s.pc + 2)] = .ok (i, rest) →
    step s = exec i s.letPass ∧ s.letPass = { s with pending := s.letPass.pending } ∧
      (∀ n later, s.pending = .reset (n + 1) :: later → s.letPass.pending = .reset n :: later) ∧
      ((∀ n later, s.pending ≠ .reset n :: later) → step s = exec i s)

/-- R188, with R180 to R183 and R186: exactly when an instruction raises which fault. Needs are counted in the
bytes on the active stack, room on the stack pushed on; underflow comes before the divisor test and before
overflow. No fourth outcome: else the core is still RUNNING. BRK raises none and halts. The keep-mode need and
the stack named in the cause are the spec's own decisions D5 and D18 (log entries 22 and 30); a fault as a
next state and the meaning of BRK are the model's (log entries 5 and 13). -/
def Obligations.FaultTableIsExact : Prop :=
  (∀ s : State, ∃ t, exec .brk s = .next t ∧ t.status = .halted) ∧
  ∀ (i : Instr) (s : State), i ≠ .brk → s.status = .running → s.Inv →
    let m := i.mode
    let under := (s.stack m.src).ptr < bytesPopped i.base m
    let byZero := i.base = .div ∧ ∃ base, s.content m.src = base ++ m.bytes 0
    let full := 255 < depthBeforePushes i.base m s + bytesPushed i.base m
    ∃ t, exec i s = .next t ∧
      (t.status = .faulted (.stackUnderflow m.src) ↔ under) ∧
      (t.status = .faulted .divisionByZero ↔ ¬under ∧ byZero) ∧
      (t.status = .faulted (.stackOverflow (pushedOn i.base m)) ↔ ¬under ∧ ¬byZero ∧ full) ∧
      (t.status = .running ↔ ¬under ∧ ¬byZero ∧ ¬full)

/-- R184: a fault leaves the program counter at the byte after the opcode, memory, the device surface and the
console output as before the instruction, keep mode ended, and changes no other part of the host's side but
the state a device read gave the host. That what was done before the fault stays done is the spec's own
decision D10 (log entry 5). -/
def Obligations.FaultKeepsMemoryDevicesAndPc : Prop :=
  ∀ (i : Instr) (s t : State) (c : Cause), s.status = .running → exec i s = .next t →
    t.status = .faulted c →
    t.pc = s.pc + 1 ∧ t.mem = s.mem ∧ t.dev = s.dev ∧ t.out = s.out ∧ t.binding = s.binding ∧
      t.pending = s.pending ∧ (i.base ≠ .dei ∨ s.binding = .reference → t.hostState = s.hostState) ∧
      t.wst.keep = false ∧ t.rst.keep = false

/-- R182, R184: at an underflow the pops made before it stay done: without the keep flag their items are gone,
with it the stack is as it was; the failing pop removes nothing, and the companion stack is untouched. It
rests on the spec's own decisions D5 and D10 (log entries 22 and 5). -/
def Obligations.UnderflowLeavesTheEarlierPopsDone : Prop :=
  ∀ (i : Instr) (s t : State) (S : StackId), s.Ready → exec i s = .next t →
    t.status = .faulted (.stackUnderflow S) →
    S = i.mode.src ∧ t.stack i.mode.dst = s.stack i.mode.dst ∧
    t.content i.mode.src =
      if i.mode.keep then s.content i.mode.src
      else (s.content i.mode.src).take ((s.stack i.mode.src).ptr -
        takenBeforeUnderflow (popWidths i.base i.mode) (s.stack i.mode.src).ptr)

/-- R185, R196: a FAULTED machine has no next state unless the host resets it. It is the spec's own decision
D10; the outcome `fault` is how the model says that there is no next state (log entry 5), the queue is the
model's (log entry 7). -/
def Obligations.FaultedIsTerminal : Prop :=
  ∀ (s : State) (c : Cause), s.status = .faulted c →
    ((∀ n rest, s.pending ≠ .reset n :: rest) → step s = .fault (.terminal c)) ∧
    ∀ n rest, s.pending = .reset n :: rest → ∃ t, step s = .next t ∧ t.status = .halted ∧ t.pending = rest

/-! ### The whole machine -/

/-- R32: what reset leaves, as far as the spec gives a value. All but the two pointers are the spec's own
decision D11 (log entry 26). -/
def Obligations.ResetValues : Prop := State.reset.CoreIsReset

/-- R12, R14, R15, R26, R27: the machine after reset meets the invariant. It rests also on the model's reset
values for stack storage and keep cursors (log entries 2 and 3). -/
def Obligations.ResetMeetsTheInvariant : Prop := State.reset.Inv

/-- R12, R14, R15, R26, R27: every step, of the core or of the host, keeps the invariant: pointers in 0 to
255, index 255 of a stack never occupied, no keep mode between instructions, memories canonical and inside
their address spaces. The steps of the host are the model's queue of transactions (log entry 7). -/
def Obligations.EveryStepKeepsTheInvariant : Prop :=
  ∀ s t : State, s.Inv → step s = .next t → t.Inv

/-- R30: the console output only grows, except at a Reset. That Reset empties it is the spec's own decision
D11 (log entry 26). -/
def Obligations.ConsoleOutputOnlyGrows : Prop :=
  ∀ s t : State, step s = .next t → s.resetDue = false → s.out <+: t.out

/-- R31, R107, R110, R130, R135, R160: over all instructions, who changes what. Only the stores write memory,
only DEO writes the device surface and the console output, only DEI and DEO move the host's state, only JSR
and STH touch the companion stack, only LIT, JMP, JCN and JSR set the program counter elsewhere than past the
opcode, only BRK halts; no instruction changes which host is bound or what the host has yet to do. That BRK
has a meaning of its own is the model's (log entry 13), so are the host's fields (log entries 7 and 9). -/
def Obligations.WhichInstructionsChangeWhat : Prop :=
  ∀ (i : Instr) (s t : State), s.Ready → exec i s = .next t →
    (i.base ∉ [Base.stz, .str, .sta] → t.mem = s.mem) ∧
    (i.base ≠ .deo → t.dev = s.dev ∧ t.out = s.out) ∧
    (i.base ∉ [Base.dei, .deo] → t.hostState = s.hostState) ∧
    (i.base ∉ [Base.jsr, .sth] → t.stack i.mode.dst = s.stack i.mode.dst) ∧
    (i ≠ .brk → i.base ∉ [Base.lit, .jmp, .jcn, .jsr] → t.pc = s.pc + 1) ∧
    (t.status = .halted ↔ i = .brk) ∧
    t.binding = s.binding ∧ t.pending = s.pending ∧ t.wst.keep = false ∧ t.rst.keep = false

/-- R15, R226(a): an instruction with the keep flag never shrinks or changes what lies on its active stack; it
only adds on top. -/
def Obligations.KeepModeOnlyAddsOnTop : Prop :=
  ∀ (i : Instr) (s t : State), s.Ready → i.mode.keep = true → exec i s = .next t →
    s.content i.mode.src <+: t.content i.mode.src

/-- R22: how each instruction leaves the program counter, `s.pc` being the address of its opcode byte. The
wrap modulo 65536 is the spec's own decision D3 (log entry 20), a fault's program counter follows D10 (log
entry 5). -/
def Obligations.ProgramCounterAfterEachInstruction : Prop :=
  (∀ s t : State, s.status = .running → s.resetDue = false → s.pc = 0 → step s = .next t → t.pc = s.pc) ∧
  ∀ (i : Instr) (s t : State), s.Ready → exec i s = .next t →
    (i = .brk → t.pc = s.pc) ∧
    (∀ c, t.status = .faulted c → t.pc = s.pc + 1) ∧
    (t.status = .running →
      (i.base = .lit → t.pc = s.pc + (if i.mode.short then 3 else 2)) ∧
      (i.base ∉ [Base.lit, .jmp, .jcn, .jsr] → t.pc = s.pc + 1) ∧
      (i.base = .jmp ∨ i.base = .jsr → ∀ base a, i.mode.Fits a →
        s.content i.mode.src = base ++ i.mode.bytes a → t.pc = landing i.mode s.pc a) ∧
      (i.base = .jcn → ∀ base c a, i.mode.Fits a →
        s.content i.mode.src = base ++ (c :: i.mode.bytes a) →
        t.pc = if c = 0 then s.pc + 1 else landing i.mode s.pc a))

/-- R11, R13, R15: no rule reads a storage byte at or above a pointer, or a keep cursor left over from an
earlier instruction: two states that differ in nothing else take the same steps for ever. (So the values the
model gives those at reset, log entries 2 and 3, are seen by no program.) -/
def Obligations.UnoccupiedStackBytesAreNeverSeen : Prop :=
  ∀ s t : State, s.wst.keep = false → s.rst.keep = false → s.Alike t → OutcomesAlike (step s) (step t)

/-- R23, R185, R189, R196: the moves of `status`. A running core halts exactly where the halt test holds or
the host resets it; a halted one starts only by a Run or an event of the host, and never faults; a faulted one
is left only by Reset; Reset always leads to HALTED. FAULTED and the legality of the host's moves are the
spec's own decisions D10 and D17 (log entries 5 and 28), the queue and the time of a Reset are the model's
(log entries 7 and 8). -/
def Obligations.StatusMovesAsTheTableSays : Prop :=
  ∀ s t : State, step s = .next t →
    (s.status = .running → (t.status = .halted ↔ s.resetDue ∨ s.pc = 0 ∨ s.memRead8 s.pc = 0)) ∧
    (s.resetDue → t.status = .halted) ∧
    (s.status = .halted → ∀ c, t.status ≠ .faulted c) ∧
    (s.status = .halted → t.status = .running →
      (∃ a rest, s.pending = .run a :: rest ∧ t.pc = a) ∨
        ∃ d payload rest, s.pending = .injectEvent d payload :: rest ∧ t.pc ≠ 0) ∧
    ∀ c, s.status = .faulted c → t.status = .halted ∧ ∃ n rest, s.pending = .reset n :: rest

/-! ### The host's transactions -/

/-- R210, R196: Reset is legal in every state and gives the core and the console output their reset values, in
FAULTED and HALTED at the next step, and in the middle of a run too: a running core is reset after at most as
many steps as the host lets pass, whatever it runs, so a core that loops for ever can be reset. The values are
the spec's own decision D11 (log entry 26); when the host resets, and what Reset does to the host's side, is
the model's (log entry 8), of which the statement says only that the transaction is done. -/
def Obligations.ResetIsLegalInEveryState : Prop :=
  (∀ (s : State) (n : Nat), ∃ t, transact (.reset n) s = .next t ∧ t.CoreIsReset) ∧
  (∀ (s : State) (n : Nat) (rest : List HostCommand), s.pending = .reset n :: rest →
    (s.status ≠ .running ∨ n = 0) → ∃ t, step s = .next t ∧ t.CoreIsReset ∧ t.pending = rest) ∧
  ∀ (s : State) (n : Nat) (rest : List HostCommand), s.pending = .reset n :: rest →
    ∃ k t, k ≤ n ∧ core.run (k + 1) s = .next t ∧ t.CoreIsReset ∧ t.pending = rest

/-- R48: LoadImage puts byte `i` of the image at 0x0100 + i and changes nothing else; an image of more than
65,280 bytes is refused, and so is a load when the core is not HALTED. The two refusals are the spec's own
decisions D20 and D17 (log entries 10 and 28). -/
def Obligations.LoadImagePutsTheImageAtItsOrigin : Prop :=
  (∀ (s : State) (img : List Byte), s.status ≠ .halted →
    transact (.loadImage img) s = .refused .transactionNotLegal) ∧
  ∀ (s : State) (img : List Byte), s.status = .halted →
    (img.length ≤ 65280 → ∃ t, transact (.loadImage img) s = .next t ∧
      (∀ x : Word, t.memRead8 x =
        if 0x0100 ≤ x.toNat then (img[x.toNat - 0x0100]?).getD (s.memRead8 x) else s.memRead8 x) ∧
      t = { s with mem := t.mem }) ∧
    (65280 < img.length → transact (.loadImage img) s = .refused (.imageTooLong img.length))

/-- R190: Run sets the program counter and the status and changes nothing else; a run at 0, or at a byte 0x00,
halts at once, with only the program counter changed. That it needs a HALTED core is the spec's own decision
D17 (log entry 28); that the run is the later steps, and `letPass`, the count of a waiting Reset, are the
model's (log entries 14 and 8). -/
def Obligations.RunStartsAtTheAddressGiven : Prop :=
  ∀ (s : State) (a : Word), s.status = .halted →
    let u : State := { s with pc := a, status := .running }
    transact (.run a) s = .next u ∧
    (a = 0 ∨ s.memRead8 a = 0 → u.resetDue = false →
      step u = .next { s with pc := a, pending := u.letPass.pending })

/-- R191, R192: an event stores its payload on the device surface, raw, then starts a run at the slot's vector
as it stands after that; with vector 0 no run starts. Nothing else changes: no hook is called, nothing is
saved or pushed. That no hook is called is the spec's own decision D13 (log entry 27). -/
def Obligations.EventStoresItsPayloadAndRunsTheVector : Prop :=
  ∀ (s : State) (d : BitVec 4) (payload : List (Byte × Byte)), s.status = .halted →
    ∃ t, transact (.injectEvent d payload) s = .next t ∧
      (∀ x, t.devByte x = payloadByte payload x (s.devByte x)) ∧
      (let vec := wordOf (t.devByte (BitVec.ofNat 8 (16 * d.toNat)))
          (t.devByte (BitVec.ofNat 8 (16 * d.toNat + 1)))
       t = if vec = 0 then { s with dev := t.dev }
         else { s with dev := t.dev, pc := vec, status := .running })

/-- R196, D17: LoadImage, Run and InjectEvent are legal only when the core is HALTED. It is the spec's own
decision D17 (log entry 28); the refusal is how the model says it. -/
def Obligations.OtherTransactionsNeedAHaltedCore : Prop :=
  ∀ (s : State) (c : HostCommand), s.status ≠ .halted → (∀ n, c ≠ .reset n) →
    transact c s = .refused .transactionNotLegal

/-- R213, R212: the start-up sequence: from any state, three steps of the host's boot leave the image at
0x0100, all other memory and the device surface 0x00, both stacks and the console output empty, and the core
running at 0x0100. The start address and the zeros are the spec's own decisions D12 and D11 (log entries 12
and 26), one transaction a step is the model's (log entry 7). -/
def Obligations.BootLoadsTheImageAndRunsIt : Prop :=
  ∀ (s : State) (img : List Byte) (rest : List HostCommand),
    s.pending = bootCommands img ++ rest → img.length ≤ 65280 →
    ∃ t, core.run 3 s = .next t ∧ t.status = .running ∧ t.pc = 0x0100 ∧ t.wst.content = [] ∧
      t.rst.content = [] ∧
      (∀ x : Word, t.memRead8 x = if 0x0100 ≤ x.toNat then (img[x.toNat - 0x0100]?).getD 0 else 0) ∧
      (∀ a, t.devByte a = 0) ∧ t.out = [] ∧ t.pending = rest

/-! ### What each instruction does -/

/-- R93: LIT in its seven encodings pushes its literal, a byte or a big-endian word, on the active stack and
moves past it; without room it raises StackOverflow with the program counter at the literal, nothing pushed.
The wrap of the program counter is the spec's own decision D3 (log entry 20), the literal in the instruction
is the model's (log entry 11). -/
def Obligations.LitPushesItsLiteral : Prop :=
  ∀ (m : Mode) (lit8 : Byte) (lit16 : Word) (s : State), m.short || m.ret || m.keep → s.Ready →
    ((s.content m.src).length + m.width ≤ 255 →
      ∃ t, exec (Instr.ofFields .lit m lit8 lit16) s = .next t ∧
        SrcBecomes m s t (s.content m.src ++ (if m.short then [hiByte lit16, loByte lit16] else [lit8])) ∧
        t.pc = s.pc + 1 + BitVec.ofNat 16 m.width ∧ s.SameRest t) ∧
    (255 < (s.content m.src).length + m.width →
      ∃ t, exec (Instr.ofFields .lit m lit8 lit16) s = .next t ∧
        SrcBecomes m s t (s.content m.src) ∧ t.pc = s.pc + 1 ∧
        t.status = .faulted (.stackOverflow m.src) ∧ s.SameStores t)

/-- R93, R75, R22: a step at the opcode byte of a LIT pushes the byte, or the big-endian word, that memory
holds after the opcode byte now, addresses modulo 65536, and moves past it; without room it raises
StackOverflow with the program counter at the literal, nothing pushed and memory unchanged. The wrap of the
program counter is the spec's own decision D3 (log entry 20), base operation 0 is the source's. The step is
one at which no Reset of the host is due; `letPass` is the model's count of a waiting one (log entry 8). -/
def Obligations.LitReadsItsLiteralFromMemory : Prop :=
  ∀ (m : Mode) (s : State), m.short || m.ret || m.keep → s.Ready → s.pc ≠ 0 → s.resetDue = false →
    s.memRead8 s.pc = encodeFields .lit m →
    ((s.content m.src).length + m.width ≤ 255 →
      ∃ t, step s = .next t ∧ SrcBecomes m s t (s.content m.src ++ s.itemAt m (s.pc + 1)) ∧
        t.pc = s.pc + 1 + BitVec.ofNat 16 m.width ∧ s.letPass.SameRest t) ∧
    (255 < (s.content m.src).length + m.width →
      ∃ t, step s = .next t ∧ SrcBecomes m s t (s.content m.src) ∧ t.pc = s.pc + 1 ∧
        t.status = .faulted (.stackOverflow m.src) ∧ s.letPass.SameStores t)

/-- R107, with R100 to R106: the stack pictures of INC, POP, DUP, NIP, SWP, OVR and ROT, with and without the
keep flag, for bytes and words, on either stack. That INC drops the carry is the spec's own decision D2 (log
entry 19). -/
def Obligations.ShufflingPictures : Prop :=
  TurnsOne .inc (fun m a => m.bytes (BitVec.ofNat 16 (a.toNat + 1))) ∧
  TurnsOne .pop (fun _ _ => []) ∧
  TurnsOne .dup (fun m a => m.bytes a ++ m.bytes a) ∧
  TurnsTwo .nip (fun m _ b => m.bytes b) ∧
  TurnsTwo .swp (fun m a b => m.bytes b ++ m.bytes a) ∧
  TurnsTwo .ovr (fun m a b => m.bytes a ++ m.bytes b ++ m.bytes a) ∧
  TurnsThree .rot (fun m a b c => m.bytes b ++ m.bytes c ++ m.bytes a)

/-- R101: POP removes the top item and pushes nothing, the byte storage staying as it was; with the keep flag
the content does not change; on a stack shorter than the item it raises StackUnderflow, also with the keep
flag, with nothing removed. (R101 also lists POP's bytes, which rest on D1, log entry 18, and are not stated
here.) -/
def Obligations.PopDiscardsTheTop : Prop :=
  ∀ (m : Mode) (s : State), s.Ready →
    (m.width ≤ (s.content m.src).length →
      ∃ t, exec (Instr.ofOp .pop m) s = .next t ∧
        SrcBecomes m s t (if m.keep then s.content m.src
          else (s.content m.src).take ((s.content m.src).length - m.width)) ∧
        (t.stack m.src).dat = (s.stack m.src).dat ∧ t.pc = s.pc + 1 ∧ s.SameRest t) ∧
    ((s.content m.src).length < m.width →
      ∃ t, exec (Instr.ofOp .pop m) s = .next t ∧ SrcBecomes m s t (s.content m.src) ∧ t.pc = s.pc + 1 ∧
        t.status = .faulted (.stackUnderflow m.src) ∧ s.SameStores t)

/-- R110 to R114: EQU, NEQ, GTH and LTH replace two items, compared as unsigned numbers, by one byte 0x01 or
0x00, whatever the width of the items. (The rules also list the opcode bytes, which rest on D1, log entry 18,
and are not stated here.) -/
def Obligations.ComparisonsPushOneByte : Prop :=
  TurnsTwo .equ (fun _ a b => [if a.toNat = b.toNat then 0x01 else 0x00]) ∧
  TurnsTwo .neq (fun _ a b => [if a.toNat = b.toNat then 0x00 else 0x01]) ∧
  TurnsTwo .gth (fun _ a b => [if a.toNat > b.toNat then 0x01 else 0x00]) ∧
  TurnsTwo .lth (fun _ a b => [if a.toNat < b.toNat then 0x01 else 0x00])

/-- R160 to R163: ADD, SUB and MUL push the exact sum, difference (the deeper item less the top) and product,
modulo 2^8 or 2^16. The truncation is the spec's own decision D2, unsigned operands its decision D4 (log
entries 19 and 21). -/
def Obligations.AddSubMulAreModular : Prop :=
  TurnsTwo .add (fun m a b => m.bytes (BitVec.ofNat 16 ((a.toNat + b.toNat) % 2 ^ (8 * m.width)))) ∧
  TurnsTwo .sub (fun m a b =>
    m.bytes (BitVec.ofInt 16 (((a.toNat : Int) - (b.toNat : Int)) % 2 ^ (8 * m.width)))) ∧
  TurnsTwo .mul (fun m a b => m.bytes (BitVec.ofNat 16 ((a.toNat * b.toNat) % 2 ^ (8 * m.width))))

/-- R164: DIV with a divisor that is not 0 pushes the unsigned quotient, rounded down. Unsigned is the spec's
own decision D4 (log entry 21). -/
def Obligations.DivPushesTheUnsignedQuotient : Prop :=
  ∀ (m : Mode) (s : State) (base : List Byte) (a b : Word), s.Ready → m.Fits a → m.Fits b → b ≠ 0 →
    s.content m.src = base ++ (m.bytes a ++ m.bytes b) →
    (m.left base (m.bytes a ++ m.bytes b)).length + m.width ≤ 255 →
    Completes .div m s
      (m.left base (m.bytes a ++ m.bytes b) ++ m.bytes (BitVec.ofNat 16 (a.toNat / b.toNat)))

/-- R183, R164: DIV with divisor 0, in byte or short mode, raises DivisionByZero after both operands were
popped and before anything is pushed; no other instruction raises it, nor DIV with another divisor. That the
operands stay popped is the spec's own decision D10 (log entry 5). -/
def Obligations.DivByZeroFaultsAfterBothPops : Prop :=
  (∀ (m : Mode) (s : State) (base : List Byte) (a : Word), s.Ready → m.Fits a →
    s.content m.src = base ++ (m.bytes a ++ m.bytes 0) →
    ∃ t, exec (Instr.ofOp .div m) s = .next t ∧ t.status = .faulted .divisionByZero ∧
      SrcBecomes m s t (m.left base (m.bytes a ++ m.bytes 0)) ∧ t.pc = s.pc + 1 ∧ s.SameStores t) ∧
  ∀ (i : Instr) (s t : State), s.Ready → exec i s = .next t → t.status = .faulted .divisionByZero →
    i.base = .div ∧ ∃ base, s.content i.mode.src = base ++ i.mode.bytes 0

/-- R165 to R167: AND, ORA and EOR combine the two items bit by bit. -/
def Obligations.BitwiseOperationsActOnEachBit : Prop :=
  TurnsTwo .and (fun m a b => m.bytes (BitVec.ofFnLE fun i => a.getLsbD i && b.getLsbD i)) ∧
  TurnsTwo .ora (fun m a b => m.bytes (BitVec.ofFnLE fun i => a.getLsbD i || b.getLsbD i)) ∧
  TurnsTwo .eor (fun m a b => m.bytes (BitVec.ofFnLE fun i => a.getLsbD i ^^ b.getLsbD i))

/-- R175: SFT takes a byte `t` from the top and the item `v` under it and pushes `(v >> t[3:0]) << t[7:4]`,
computed on unbounded numbers and truncated to the width. The truncation is the spec's own decision D2 (log
entry 19). -/
def Obligations.SftShiftsRightThenLeft : Prop :=
  ∀ (m : Mode) (s : State) (base : List Byte) (v : Word) (t : Byte), s.Ready → m.Fits v →
    s.content m.src = base ++ (m.bytes v ++ [t]) →
    (m.left base (m.bytes v ++ [t])).length + m.width ≤ 255 →
    Completes .sft m s (m.left base (m.bytes v ++ [t]) ++
      m.bytes (BitVec.ofNat 16
        ((v.toNat / 2 ^ (t.toNat % 16)) * 2 ^ (t.toNat / 16) % 2 ^ (8 * m.width))))

/-- R120, R121: JMP pops its operand and lands at it, or at the signed offset from the byte after the opcode.
The wrap of the target is the spec's own decision D3 (log entry 20). -/
def Obligations.JmpPopsAndLands : Prop :=
  ∀ (m : Mode) (s : State) (base : List Byte) (a : Word), s.Ready → m.Fits a →
    s.content m.src = base ++ m.bytes a →
    ∃ t, exec (Instr.ofOp .jmp m) s = .next t ∧ SrcBecomes m s t (m.left base (m.bytes a)) ∧
      t.pc = landing m s.pc a ∧ s.SameRest t

/-- R122: JCN pops the address, then a condition byte in either mode, and lands only if the byte is not 0;
both are popped whether or not it jumps. The wrap of the target is the spec's own decision D3 (log entry 20).
-/
def Obligations.JcnLandsIfTheByteIsNotZero : Prop :=
  ∀ (m : Mode) (s : State) (base : List Byte) (c : Byte) (a : Word), s.Ready → m.Fits a →
    s.content m.src = base ++ (c :: m.bytes a) →
    ∃ t, exec (Instr.ofOp .jcn m) s = .next t ∧ SrcBecomes m s t (m.left base (c :: m.bytes a)) ∧
      t.pc = (if c = 0 then s.pc + 1 else landing m s.pc a) ∧ s.SameRest t

/-- R123: JSR pops its operand, pushes the address of the byte after the opcode on the companion stack, a word
in either mode with the high byte deeper, and lands. The wraps of the target and of the return address are the
spec's own decision D3 (log entry 20). -/
def Obligations.JsrPushesTheReturnAddressAndLands : Prop :=
  ∀ (m : Mode) (s : State) (base : List Byte) (a : Word), s.Ready → m.Fits a →
    s.content m.src = base ++ m.bytes a → (s.content m.dst).length ≤ 253 →
    ∃ t, exec (Instr.ofOp .jsr m) s = .next t ∧
      t.content m.src = m.left base (m.bytes a) ∧
      t.content m.dst = s.content m.dst ++ [hiByte (s.pc + 1), loByte (s.pc + 1)] ∧
      (t.stack m.src).keep = false ∧ (t.stack m.dst).keep = false ∧
      (m.keep = false → (t.stack m.src).kc = (s.stack m.src).kc) ∧
      (t.stack m.dst).kc = (s.stack m.dst).kc ∧ t.pc = landing m s.pc a ∧ s.SameRest t

/-- R124: a JSR2 and then a JMP2r come back to the byte after the JSR2 with the return stack as it was. The
wrap of the return address is the spec's own decision D3 (log entry 20). -/
def Obligations.CallAndReturnComeBack : Prop :=
  ∀ (s : State) (base : List Byte) (a : Word), s.Ready →
    s.content .wst = base ++ [hiByte a, loByte a] → (s.content .rst).length ≤ 253 →
    ∃ t u, exec .jsr2 s = .next t ∧ t.pc = a ∧ exec .jmp2r t = .next u ∧ u.pc = s.pc + 1 ∧
      u.content .wst = base ∧ u.content .rst = s.content .rst ∧ s.SameRest u

/-- R130: STH pops an item from the active stack and pushes it on the companion stack, its bytes in the same
order, or copies it with the keep flag; without room there it raises StackOverflow of the companion stack
after the pop, the item being on neither stack unless kept; without an item it raises StackUnderflow; an STH
and then an STHr restore both stacks. (R130 also lists STH's bytes, which rest on D1, log entry 18, and are
not stated here.) -/
def Obligations.SthMovesAnItemAcross : Prop :=
  ∀ (m : Mode) (s : State), s.Ready →
    (∀ (base : List Byte) (a : Word), m.Fits a → s.content m.src = base ++ m.bytes a →
      ((s.content m.dst).length + m.width ≤ 255 →
        ∃ t, exec (Instr.ofOp .sth m) s = .next t ∧
          t.content m.src = m.left base (m.bytes a) ∧ t.content m.dst = s.content m.dst ++ m.bytes a ∧
          (t.stack m.src).keep = false ∧ (t.stack m.dst).keep = false ∧
          (m.keep = false → (t.stack m.src).kc = (s.stack m.src).kc) ∧
          (t.stack m.dst).kc = (s.stack m.dst).kc ∧ t.pc = s.pc + 1 ∧ s.SameRest t) ∧
      (255 < (s.content m.dst).length + m.width →
        ∃ t, exec (Instr.ofOp .sth m) s = .next t ∧ SrcBecomes m s t (m.left base (m.bytes a)) ∧
          t.pc = s.pc + 1 ∧ t.status = .faulted (.stackOverflow m.dst) ∧ s.SameStores t) ∧
      (m.keep = false → (s.content m.src).length ≤ 255 → (s.content m.dst).length + m.width ≤ 255 →
        ∃ t u, exec (Instr.ofOp .sth m) s = .next t ∧
          exec (Instr.ofOp .sth { m with ret := !m.ret }) t = .next u ∧
          u.content .wst = s.content .wst ∧ u.content .rst = s.content .rst)) ∧
    ((s.content m.src).length < m.width →
      ∃ t, exec (Instr.ofOp .sth m) s = .next t ∧ SrcBecomes m s t (s.content m.src) ∧ t.pc = s.pc + 1 ∧
        t.status = .faulted (.stackUnderflow m.src) ∧ s.SameStores t)

/-- R123, R184: without room for the return address JSR raises StackOverflow of the companion stack after the
pop: the address has left the active stack (not with the keep flag) and the jump is not made. That the pop
stays done is the spec's own decision D10 (log entry 5). -/
def Obligations.JsrOverflowComesAfterThePop : Prop :=
  ∀ (m : Mode) (s : State) (base : List Byte) (a : Word), s.Ready → m.Fits a →
    s.content m.src = base ++ m.bytes a → 253 < (s.content m.dst).length →
    ∃ t, exec (Instr.ofOp .jsr m) s = .next t ∧ SrcBecomes m s t (m.left base (m.bytes a)) ∧
      t.pc = s.pc + 1 ∧ t.status = .faulted (.stackOverflow m.dst) ∧ s.SameStores t

/-- R102, R184: where DUP overflows, the pushes made before stay: without the keep flag the first push has put
the item back; with it the first push stays if it had room. That the first push stays done is the spec's own
decision D10 (log entry 5). -/
def Obligations.DupOverflowKeepsTheFirstPush : Prop :=
  ∀ (m : Mode) (s : State) (base : List Byte) (a : Word), s.Ready → m.Fits a →
    s.content m.src = base ++ m.bytes a → (s.content m.src).length ≤ 255 →
    255 < (m.left base (m.bytes a)).length + 2 * m.width →
    ∃ t, exec (Instr.ofOp .dup m) s = .next t ∧
      SrcBecomes m s t (if m.keep ∧ (s.content m.src).length + m.width ≤ 255
        then s.content m.src ++ m.bytes a else s.content m.src) ∧
      t.pc = s.pc + 1 ∧ t.status = .faulted (.stackOverflow m.src) ∧ s.SameStores t

/-- R135, R136, R138, R140: LDZ, LDR and LDA push the item at the address operand, which is a byte, a signed
byte from the byte after the opcode, or a word, whatever the width of the item. The wrap of LDR's address is
the spec's own decision D3 (log entry 20). -/
def Obligations.LoadsPushTheItemInMemory : Prop :=
  ∀ (m : Mode) (s : State) (base : List Byte), s.Ready →
    (∀ z : Byte, s.content m.src = base ++ [z] → Loads .ldz m s base [z] (zeroPageAddress z)) ∧
    (∀ o : Byte, s.content m.src = base ++ [o] → Loads .ldr m s base [o] (relativeAddress (s.pc + 1) o)) ∧
    (∀ w : Word, s.content m.src = base ++ [hiByte w, loByte w] →
      Loads .lda m s base [hiByte w, loByte w] w) ∧
    (∀ z : Byte, (zeroPageAddress z).toNat = z.toNat) ∧
    ∀ o : Byte, relativeAddress (s.pc + 1) o = BitVec.ofInt 16 ((s.pc.toNat : Int) + 1 + o.toInt)

/-- R135, R137, R139, R141: STZ, STR and STA pop the address operand, then the value, and write the value
there; every other byte of memory is as before. Address before value is the spec's own decision D6, the wrap
of STR's address D3 (log entries 23 and 20). -/
def Obligations.StoresWriteOnlyTheirItem : Prop :=
  ∀ (m : Mode) (s : State) (base : List Byte) (v : Word), s.Ready → m.Fits v →
    (∀ z : Byte, s.content m.src = base ++ (m.bytes v ++ [z]) →
      Stores .stz m s base (m.bytes v ++ [z]) (zeroPageAddress z) v) ∧
    (∀ o : Byte, s.content m.src = base ++ (m.bytes v ++ [o]) →
      Stores .str m s base (m.bytes v ++ [o]) (relativeAddress (s.pc + 1) o) v) ∧
    ∀ w : Word, s.content m.src = base ++ (m.bytes v ++ [hiByte w, loByte w]) →
      Stores .sta m s base (m.bytes v ++ [hiByte w, loByte w]) w v

/-- R150 with the reference host: DEI pushes the byte at the device address, or the two bytes at it and at the
next address modulo 256, and changes nothing else. That DEI takes the hook's byte, here the stored one, is the
spec's own decision D9 (log entry 25). -/
def Obligations.DeiPushesTheStoredBytes : Prop :=
  ∀ (m : Mode) (s : State) (base : List Byte) (a : Byte), s.Ready → s.binding = .reference →
    s.content m.src = base ++ [a] → (m.left base [a]).length + m.width ≤ 255 →
    Completes .dei m s (m.left base [a] ++
      if m.short then [s.devByte a, s.devByte (BitVec.ofNat 8 ((a.toNat + 1) % 256))] else [s.devByte a])

/-- R150, R55, R60 with any other host: DEI calls the read hook once, or twice in the order `a`, `a + 1`,
pushes what it returned, and of the machine changes only the host's state besides. That DEI takes the hook's
byte and what a hook may change are the spec's own decisions D9 and D14 (log entry 25); the hook is an open
parameter (log entry 9). -/
def Obligations.DeiCallsTheReadHook : Prop :=
  ∀ (m : Mode) (s : State) (base : List Byte) (a : Byte), s.Ready → s.binding = .other →
    s.content m.src = base ++ [a] → (m.left base [a]).length + m.width ≤ 255 →
    let first := Config.hostRead s.hostState s.dev a
    let second := Config.hostRead first.1 s.dev (a + 1)
    ∃ t, exec (Instr.ofOp .dei m) s = .next t ∧
      SrcBecomes m s t (m.left base [a] ++ if m.short then [first.2, second.2] else [first.2]) ∧
      t.pc = s.pc + 1 ∧ s.SameRest { t with hostState := s.hostState } ∧
      t.hostState = if m.short then second.1 else first.1

/-- R151, R55 with the reference host: DEO pops the device address, then the value, stores the value's byte or
bytes, the high byte first and at the address, and emits on the console each byte stored at 0x18; every other
device byte and all of memory are as before. The second address of DEO2 and store before hook are the spec's
own decisions D7 and D8 (log entries 24 and 25). -/
def Obligations.DeoStoresAndEmits : Prop :=
  ∀ (m : Mode) (s : State) (base : List Byte) (v : Word) (a : Byte), s.Ready → s.binding = .reference →
    m.Fits v → s.content m.src = base ++ (m.bytes v ++ [a]) →
    ∃ t, exec (Instr.ofOp .deo m) s = .next t ∧
      SrcBecomes m s t (m.left base (m.bytes v ++ [a])) ∧ t.pc = s.pc + 1 ∧
      (∀ x : Byte, t.devByte x =
        if m.short then (if x = a then hiByte v else if x = a + 1 then loByte v else s.devByte x)
        else (if x = a then loByte v else s.devByte x)) ∧
      t.out = s.out ++ (if m.short
        then (if a = 0x18 then [hiByte v] else []) ++ (if a + 1 = 0x18 then [loByte v] else [])
        else (if a = 0x18 then [loByte v] else [])) ∧
      s.SameRest { t with dev := s.dev, out := s.out }

/-- R151, R55, R60 with any other host: DEO stores as above and calls the write hook after each store, for the
high byte before the low byte is stored; of the machine it changes only the host's state besides. The second
address of DEO2, store before hook and what a hook may change are the spec's own decisions D7, D8 and D14 (log
entries 24 and 25); the hook is an open parameter (log entry 9). -/
def Obligations.DeoCallsTheWriteHookAfterEachStore : Prop :=
  ∀ (m : Mode) (s : State) (base : List Byte) (v : Word) (a : Byte), s.Ready → s.binding = .other →
    m.Fits v → s.content m.src = base ++ (m.bytes v ++ [a]) →
    let first := if m.short then hiByte v else loByte v
    let dev1 := Memory.write s.dev a.toNat first
    let dev2 := Memory.write dev1 (a + 1).toNat (loByte v)
    let host1 := Config.hostWrite s.hostState dev1 a first
    ∃ t, exec (Instr.ofOp .deo m) s = .next t ∧
      SrcBecomes m s t (m.left base (m.bytes v ++ [a])) ∧ t.pc = s.pc + 1 ∧
      t.dev = (if m.short then dev2 else dev1) ∧
      t.hostState = (if m.short then Config.hostWrite host1 dev2 (a + 1) (loByte v) else host1) ∧
      s.SameRest { t with dev := s.dev, hostState := s.hostState }
end

