-- ==== Sys2Proof/Laws/Memory.lean ====
section
/-! SUPPORT. A memory of cells: a read after a write, and that writes keep the canonical form. -/

namespace Sys2Proof.Machine

@[simp] theorem Memory.read_nil (a : Nat) : Memory.read [] a = 0 := rfl

theorem Memory.read_cons (c : Host.Cell) (m : Memory) (a : Nat) :
    Memory.read (c :: m) a = if a = c.1 then c.2 else Memory.read m a := rfl

theorem Memory.read_erase (m : Memory) (a b : Nat) :
    Memory.read (Memory.erase m a) b = if b = a then 0 else Memory.read m b := by
  induction m with
  | nil => simp [Memory.erase]
  | cons c rest ih =>
    simp only [Memory.erase, List.filter_cons] at ih ⊢
    by_cases h : c.1 = a
    · subst h
      simp only [ne_eq, not_true_eq_false, decide_false, Bool.false_eq_true, if_false, ih,
        Memory.read_cons]
      split <;> rfl
    · simp only [ne_eq, h, not_false_eq_true, decide_true, if_true, Memory.read_cons, ih]
      split <;> rename_i hb
      · simp [hb, h]
      · rfl

theorem Memory.read_insert (m : Memory) (a b : Nat) (v : Byte) :
    Memory.read (Memory.insert m a v) b = if b = a then v else Memory.read m b := by
  induction m with
  | nil => rfl
  | cons c rest ih =>
    obtain ⟨c, w⟩ := c
    simp only [Memory.insert]
    split
    · rfl
    · split
      · rename_i h; subst h; simp only [Memory.read_cons]; split <;> rfl
      · rename_i h
        simp only [Memory.read_cons, ih]
        split <;> rename_i hb
        · subst hb; rw [if_neg (fun e => h e.symm)]
        · rfl

/-- A read after a write: the written byte at its address, the old byte elsewhere (20_memory.md R43). -/
theorem Memory.read_write (m : Memory) (a b : Nat) (v : Byte) :
    Memory.read (Memory.write m a v) b = if b = a then v else Memory.read m b := by
  unfold Memory.write
  split
  · rename_i h; rw [Memory.read_erase, h]
  · exact Memory.read_insert m a b v

@[simp] theorem Memory.read_write_same (m : Memory) (a : Nat) (v : Byte) :
    Memory.read (Memory.write m a v) a = v := by simp [Memory.read_write]

theorem Memory.read_write_other (m : Memory) {a b : Nat} (v : Byte) (h : b ≠ a) :
    Memory.read (Memory.write m a v) b = Memory.read m b := by simp [Memory.read_write, h]

theorem Memory.mem_insert {m : Memory} {a : Nat} {v : Byte} {c : Host.Cell}
    (h : c ∈ Memory.insert m a v) : c = (a, v) ∨ c ∈ m := by
  induction m with
  | nil => simpa [Memory.insert] using h
  | cons d rest ih =>
    obtain ⟨b, w⟩ := d
    simp only [Memory.insert] at h
    split at h
    · simpa using h
    · split at h
      · rcases List.mem_cons.1 h with h | h
        · exact .inl h
        · exact .inr (List.mem_cons_of_mem _ h)
      · rcases List.mem_cons.1 h with h | h
        · exact .inr (h ▸ List.mem_cons_self)
        · exact (ih h).imp_right (List.mem_cons_of_mem _)

theorem Memory.pairwise_insert {m : Memory} (a : Nat) (v : Byte)
    (h : m.Pairwise fun c d => c.1 < d.1) : (Memory.insert m a v).Pairwise fun c d => c.1 < d.1 := by
  induction m with
  | nil => simp [Memory.insert]
  | cons d rest ih =>
    obtain ⟨b, w⟩ := d
    obtain ⟨hb, hr⟩ := List.pairwise_cons.1 h
    simp only [Memory.insert]
    split
    · rename_i hab
      refine List.pairwise_cons.2 ⟨fun c hc => ?_, h⟩
      rcases List.mem_cons.1 hc with rfl | hc
      · exact hab
      · exact Nat.lt_trans hab (hb c hc)
    · split
      · rename_i hab; subst hab; exact List.pairwise_cons.2 ⟨hb, hr⟩
      · refine List.pairwise_cons.2 ⟨fun c hc => ?_, ih hr⟩
        rcases Memory.mem_insert hc with rfl | hc
        · simp only; omega
        · exact hb c hc

/-- A write keeps the canonical form. -/
theorem Memory.wf_write {m : Memory} (a : Nat) (v : Byte) (h : Memory.wf m) :
    Memory.wf (Memory.write m a v) := by
  unfold Memory.write
  split
  · exact ⟨h.1.filter _, fun c hc => h.2 c (List.mem_filter.1 hc).1⟩
  · rename_i hv
    refine ⟨Memory.pairwise_insert a v h.1, fun c hc => ?_⟩
    rcases Memory.mem_insert hc with rfl | hc
    · exact hv
    · exact h.2 c hc

/-- A write inside an address space keeps every cell inside it. -/
theorem Memory.within_write {m : Memory} {a n : Nat} (v : Byte) (ha : a < n) (h : Memory.within m n) :
    Memory.within (Memory.write m a v) n := by
  unfold Memory.write
  split
  · exact fun c hc => h c (List.mem_filter.1 hc).1
  · intro c hc
    rcases Memory.mem_insert hc with rfl | hc
    · exact ha
    · exact h c hc

/-- Two canonical memories that read the same everywhere are equal data. -/
theorem Memory.ext {m n : Memory} (hm : Memory.wf m) (hn : Memory.wf n)
    (h : ∀ a, Memory.read m a = Memory.read n a) : m = n := by
  have key : ∀ {m : Memory}, Memory.wf m → ∀ a v, (a, v) ∈ m ↔ v ≠ 0 ∧ Memory.read m a = v := by
    intro m hm
    induction m with
    | nil => intro a v; simp; intro hv h; exact hv h.symm
    | cons c rest ih =>
      obtain ⟨b, w⟩ := c
      obtain ⟨hs, hz⟩ := hm
      obtain ⟨hb, hr⟩ := List.pairwise_cons.1 hs
      have ih := ih ⟨hr, fun c hc => hz c (List.mem_cons_of_mem _ hc)⟩
      intro a v
      rw [List.mem_cons, Memory.read_cons]
      by_cases hab : a = b
      · subst hab
        have hw : w ≠ 0 := hz (a, w) List.mem_cons_self
        constructor
        · rintro (h | h)
          · cases h; exact ⟨hw, by simp⟩
          · exact absurd (hb _ h) (Nat.lt_irrefl _)
        · rintro ⟨_, h⟩; simp at h; exact .inl (by rw [h])
      · simp only [hab, if_false, Prod.mk.injEq, false_and, false_or]
        exact ih a v
  have hp : m.Perm n := (List.perm_ext_iff_of_nodup
      (hm.1.imp fun h e => by rw [e] at h; exact Nat.lt_irrefl _ h)
      (hn.1.imp fun h e => by rw [e] at h; exact Nat.lt_irrefl _ h)).2
      fun ⟨a, v⟩ => by rw [key hm, key hn, h a]
  exact hp.eq_of_pairwise (le := fun c d => c.1 < d.1)
    (fun _ _ _ _ h1 h2 => absurd (Nat.lt_trans h1 h2) (Nat.lt_irrefl _)) hm.1 hn.1

end Sys2Proof.Machine
end

