-- ==== Sys2Proof/Laws/State.lean ====
section
/-! SUPPORT. What each update of the state does to each field. -/

namespace Sys2Proof.Machine

@[simp] theorem State.setStack_mem (s : State) (id : StackId) (S : Stack) : (s.setStack id S).mem = s.mem := by cases id <;> rfl
@[simp] theorem State.setStack_dev (s : State) (id : StackId) (S : Stack) : (s.setStack id S).dev = s.dev := by cases id <;> rfl
@[simp] theorem State.setStack_pc (s : State) (id : StackId) (S : Stack) : (s.setStack id S).pc = s.pc := by cases id <;> rfl
@[simp] theorem State.setStack_status (s : State) (id : StackId) (S : Stack) : (s.setStack id S).status = s.status := by cases id <;> rfl
@[simp] theorem State.setStack_out (s : State) (id : StackId) (S : Stack) : (s.setStack id S).out = s.out := by cases id <;> rfl
@[simp] theorem State.setStack_binding (s : State) (id : StackId) (S : Stack) : (s.setStack id S).binding = s.binding := by cases id <;> rfl
@[simp] theorem State.setStack_hostState (s : State) (id : StackId) (S : Stack) : (s.setStack id S).hostState = s.hostState := by cases id <;> rfl
@[simp] theorem State.setStack_pending (s : State) (id : StackId) (S : Stack) : (s.setStack id S).pending = s.pending := by cases id <;> rfl

@[simp] theorem State.clearKeep_wst (s : State) : (s.clearKeep).wst = s.wst.leaveKeep := rfl
@[simp] theorem State.clearKeep_rst (s : State) : (s.clearKeep).rst = s.rst.leaveKeep := rfl
@[simp] theorem State.clearKeep_mem (s : State) : (s.clearKeep).mem = s.mem := rfl
@[simp] theorem State.clearKeep_dev (s : State) : (s.clearKeep).dev = s.dev := rfl
@[simp] theorem State.clearKeep_pc (s : State) : (s.clearKeep).pc = s.pc := rfl
@[simp] theorem State.clearKeep_status (s : State) : (s.clearKeep).status = s.status := rfl
@[simp] theorem State.clearKeep_out (s : State) : (s.clearKeep).out = s.out := rfl
@[simp] theorem State.clearKeep_binding (s : State) : (s.clearKeep).binding = s.binding := rfl
@[simp] theorem State.clearKeep_hostState (s : State) : (s.clearKeep).hostState = s.hostState := rfl
@[simp] theorem State.clearKeep_pending (s : State) : (s.clearKeep).pending = s.pending := rfl

@[simp] theorem State.advance_wst (s : State) (n : Word) : (s.advance n).wst = s.wst := rfl
@[simp] theorem State.advance_rst (s : State) (n : Word) : (s.advance n).rst = s.rst := rfl
@[simp] theorem State.advance_mem (s : State) (n : Word) : (s.advance n).mem = s.mem := rfl
@[simp] theorem State.advance_dev (s : State) (n : Word) : (s.advance n).dev = s.dev := rfl
@[simp] theorem State.advance_pc (s : State) (n : Word) : (s.advance n).pc = s.pc + n := rfl
@[simp] theorem State.advance_status (s : State) (n : Word) : (s.advance n).status = s.status := rfl
@[simp] theorem State.advance_out (s : State) (n : Word) : (s.advance n).out = s.out := rfl
@[simp] theorem State.advance_binding (s : State) (n : Word) : (s.advance n).binding = s.binding := rfl
@[simp] theorem State.advance_hostState (s : State) (n : Word) : (s.advance n).hostState = s.hostState := rfl
@[simp] theorem State.advance_pending (s : State) (n : Word) : (s.advance n).pending = s.pending := rfl
@[simp] theorem State.advance_stack (s : State) (n : Word) (j : StackId) : (s.advance n).stack j = s.stack j := by cases j <;> rfl

@[simp] theorem State.halt_wst (s : State) : (s.halt).wst = s.wst := rfl
@[simp] theorem State.halt_rst (s : State) : (s.halt).rst = s.rst := rfl
@[simp] theorem State.halt_mem (s : State) : (s.halt).mem = s.mem := rfl
@[simp] theorem State.halt_dev (s : State) : (s.halt).dev = s.dev := rfl
@[simp] theorem State.halt_pc (s : State) : (s.halt).pc = s.pc := rfl
@[simp] theorem State.halt_status (s : State) : (s.halt).status = .halted := rfl
@[simp] theorem State.halt_out (s : State) : (s.halt).out = s.out := rfl
@[simp] theorem State.halt_binding (s : State) : (s.halt).binding = s.binding := rfl
@[simp] theorem State.halt_hostState (s : State) : (s.halt).hostState = s.hostState := rfl
@[simp] theorem State.halt_pending (s : State) : (s.halt).pending = s.pending := rfl
@[simp] theorem State.halt_stack (s : State) (j : StackId) : (s.halt).stack j = s.stack j := by cases j <;> rfl

@[simp] theorem State.takeFault_wst (s : State) (c : Cause) : (s.takeFault c).wst = s.wst.leaveKeep := rfl
@[simp] theorem State.takeFault_rst (s : State) (c : Cause) : (s.takeFault c).rst = s.rst.leaveKeep := rfl
@[simp] theorem State.takeFault_mem (s : State) (c : Cause) : (s.takeFault c).mem = s.mem := rfl
@[simp] theorem State.takeFault_dev (s : State) (c : Cause) : (s.takeFault c).dev = s.dev := rfl
@[simp] theorem State.takeFault_pc (s : State) (c : Cause) : (s.takeFault c).pc = s.pc := rfl
@[simp] theorem State.takeFault_status (s : State) (c : Cause) : (s.takeFault c).status = .faulted c := rfl
@[simp] theorem State.takeFault_out (s : State) (c : Cause) : (s.takeFault c).out = s.out := rfl
@[simp] theorem State.takeFault_binding (s : State) (c : Cause) : (s.takeFault c).binding = s.binding := rfl
@[simp] theorem State.takeFault_hostState (s : State) (c : Cause) : (s.takeFault c).hostState = s.hostState := rfl
@[simp] theorem State.takeFault_pending (s : State) (c : Cause) : (s.takeFault c).pending = s.pending := rfl

@[simp] theorem State.memWrite8_wst (s : State) (a : Word) (v : Byte) : (s.memWrite8 a v).wst = s.wst := rfl
@[simp] theorem State.memWrite8_rst (s : State) (a : Word) (v : Byte) : (s.memWrite8 a v).rst = s.rst := rfl
@[simp] theorem State.memWrite8_mem (s : State) (a : Word) (v : Byte) : (s.memWrite8 a v).mem = Memory.write s.mem a.toNat v := rfl
@[simp] theorem State.memWrite8_dev (s : State) (a : Word) (v : Byte) : (s.memWrite8 a v).dev = s.dev := rfl
@[simp] theorem State.memWrite8_pc (s : State) (a : Word) (v : Byte) : (s.memWrite8 a v).pc = s.pc := rfl
@[simp] theorem State.memWrite8_status (s : State) (a : Word) (v : Byte) : (s.memWrite8 a v).status = s.status := rfl
@[simp] theorem State.memWrite8_out (s : State) (a : Word) (v : Byte) : (s.memWrite8 a v).out = s.out := rfl
@[simp] theorem State.memWrite8_binding (s : State) (a : Word) (v : Byte) : (s.memWrite8 a v).binding = s.binding := rfl
@[simp] theorem State.memWrite8_hostState (s : State) (a : Word) (v : Byte) : (s.memWrite8 a v).hostState = s.hostState := rfl
@[simp] theorem State.memWrite8_pending (s : State) (a : Word) (v : Byte) : (s.memWrite8 a v).pending = s.pending := rfl
@[simp] theorem State.memWrite8_stack (s : State) (a : Word) (v : Byte) (j : StackId) : (s.memWrite8 a v).stack j = s.stack j := by cases j <;> rfl

@[simp] theorem State.memWrite16_wst (s : State) (a : Word) (v : Word) : (s.memWrite16 a v).wst = s.wst := rfl
@[simp] theorem State.memWrite16_rst (s : State) (a : Word) (v : Word) : (s.memWrite16 a v).rst = s.rst := rfl
@[simp] theorem State.memWrite16_mem (s : State) (a : Word) (v : Word) : (s.memWrite16 a v).mem = Memory.write (Memory.write s.mem a.toNat (hiByte v)) (a + 1).toNat (loByte v) := rfl
@[simp] theorem State.memWrite16_dev (s : State) (a : Word) (v : Word) : (s.memWrite16 a v).dev = s.dev := rfl
@[simp] theorem State.memWrite16_pc (s : State) (a : Word) (v : Word) : (s.memWrite16 a v).pc = s.pc := rfl
@[simp] theorem State.memWrite16_status (s : State) (a : Word) (v : Word) : (s.memWrite16 a v).status = s.status := rfl
@[simp] theorem State.memWrite16_out (s : State) (a : Word) (v : Word) : (s.memWrite16 a v).out = s.out := rfl
@[simp] theorem State.memWrite16_binding (s : State) (a : Word) (v : Word) : (s.memWrite16 a v).binding = s.binding := rfl
@[simp] theorem State.memWrite16_hostState (s : State) (a : Word) (v : Word) : (s.memWrite16 a v).hostState = s.hostState := rfl
@[simp] theorem State.memWrite16_pending (s : State) (a : Word) (v : Word) : (s.memWrite16 a v).pending = s.pending := rfl
@[simp] theorem State.memWrite16_stack (s : State) (a : Word) (v : Word) (j : StackId) : (s.memWrite16 a v).stack j = s.stack j := by cases j <;> rfl

@[simp] theorem State.setDevByte_wst (s : State) (a v : Byte) : (s.setDevByte a v).wst = s.wst := rfl
@[simp] theorem State.setDevByte_rst (s : State) (a v : Byte) : (s.setDevByte a v).rst = s.rst := rfl
@[simp] theorem State.setDevByte_mem (s : State) (a v : Byte) : (s.setDevByte a v).mem = s.mem := rfl
@[simp] theorem State.setDevByte_dev (s : State) (a v : Byte) : (s.setDevByte a v).dev = Memory.write s.dev a.toNat v := rfl
@[simp] theorem State.setDevByte_pc (s : State) (a v : Byte) : (s.setDevByte a v).pc = s.pc := rfl
@[simp] theorem State.setDevByte_status (s : State) (a v : Byte) : (s.setDevByte a v).status = s.status := rfl
@[simp] theorem State.setDevByte_out (s : State) (a v : Byte) : (s.setDevByte a v).out = s.out := rfl
@[simp] theorem State.setDevByte_binding (s : State) (a v : Byte) : (s.setDevByte a v).binding = s.binding := rfl
@[simp] theorem State.setDevByte_hostState (s : State) (a v : Byte) : (s.setDevByte a v).hostState = s.hostState := rfl
@[simp] theorem State.setDevByte_pending (s : State) (a v : Byte) : (s.setDevByte a v).pending = s.pending := rfl
@[simp] theorem State.setDevByte_stack (s : State) (a v : Byte) (j : StackId) : (s.setDevByte a v).stack j = s.stack j := by cases j <;> rfl

@[simp] theorem State.startRun_wst (s : State) (a : Word) : (s.startRun a).wst = s.wst := rfl
@[simp] theorem State.startRun_rst (s : State) (a : Word) : (s.startRun a).rst = s.rst := rfl
@[simp] theorem State.startRun_mem (s : State) (a : Word) : (s.startRun a).mem = s.mem := rfl
@[simp] theorem State.startRun_dev (s : State) (a : Word) : (s.startRun a).dev = s.dev := rfl
@[simp] theorem State.startRun_pc (s : State) (a : Word) : (s.startRun a).pc = a := rfl
@[simp] theorem State.startRun_status (s : State) (a : Word) : (s.startRun a).status = .running := rfl
@[simp] theorem State.startRun_out (s : State) (a : Word) : (s.startRun a).out = s.out := rfl
@[simp] theorem State.startRun_binding (s : State) (a : Word) : (s.startRun a).binding = s.binding := rfl
@[simp] theorem State.startRun_hostState (s : State) (a : Word) : (s.startRun a).hostState = s.hostState := rfl
@[simp] theorem State.startRun_pending (s : State) (a : Word) : (s.startRun a).pending = s.pending := rfl
@[simp] theorem State.startRun_stack (s : State) (a : Word) (j : StackId) : (s.startRun a).stack j = s.stack j := by cases j <;> rfl

@[simp] theorem State.stack_wst (s : State) : s.stack .wst = s.wst := rfl
@[simp] theorem State.stack_rst (s : State) : s.stack .rst = s.rst := rfl

@[simp] theorem State.setStack_stack_same (s : State) (id : StackId) (S : Stack) :
    (s.setStack id S).stack id = S := by cases id <;> rfl

theorem State.setStack_stack_other (s : State) {i j : StackId} (S : Stack) (h : j ≠ i) :
    (s.setStack i S).stack j = s.stack j := by cases i <;> cases j <;> first | rfl | exact absurd rfl h

@[simp] theorem State.setStack_setStack (s : State) (id : StackId) (S T : Stack) :
    (s.setStack id S).setStack id T = s.setStack id T := by cases id <;> rfl

@[simp] theorem State.setStack_self (s : State) (id : StackId) : s.setStack id (s.stack id) = s := by
  cases id <;> rfl

@[simp] theorem State.clearKeep_stack (s : State) (id : StackId) :
    s.clearKeep.stack id = (s.stack id).leaveKeep := by cases id <;> rfl

@[simp] theorem State.takeFault_stack (s : State) (c : Cause) (id : StackId) :
    (s.takeFault c).stack id = (s.stack id).leaveKeep := by cases id <;> rfl

@[simp] theorem Stack.leaveKeep_dat (S : Stack) : S.leaveKeep.dat = S.dat := rfl
@[simp] theorem Stack.leaveKeep_ptr (S : Stack) : S.leaveKeep.ptr = S.ptr := rfl
@[simp] theorem Stack.leaveKeep_kc (S : Stack) : S.leaveKeep.kc = S.kc := rfl
@[simp] theorem Stack.leaveKeep_keep (S : Stack) : S.leaveKeep.keep = false := rfl

/-- Leaving keep mode changes nothing on a stack that is not in it. -/
theorem Stack.leaveKeep_of_not_keep {S : Stack} (h : S.keep = false) : S.leaveKeep = S := by
  cases S; cases h; rfl

end Sys2Proof.Machine

namespace Sys2Proof

open Machine

/-- The two stacks of an instruction are different (40_step_break_literal.md R91). -/
theorem Mode.dst_ne_src (m : Mode) : m.dst ≠ m.src := by
  cases m with | mk s r k => cases r <;> simp [Mode.dst, Mode.src]

theorem Mode.src_ne_dst (m : Mode) : m.src ≠ m.dst := fun h => m.dst_ne_src h.symm

@[simp] theorem Mode.setStack_src_dst (m : Mode) (s : State) (S : Stack) :
    (s.setStack m.src S).stack m.dst = s.stack m.dst := State.setStack_stack_other s S m.dst_ne_src

@[simp] theorem Mode.setStack_dst_src (m : Mode) (s : State) (S : Stack) :
    (s.setStack m.dst S).stack m.src = s.stack m.src := State.setStack_stack_other s S m.src_ne_dst

end Sys2Proof
end

