-- ==== Sys2Proof/Laws/Access.lean ====
section
/-! SUPPORT. Memory and device accesses on the whole state: what each leaves alone, that each keeps the
canonical form, and what the lists of writes do (spec/20_memory.md R41 to R55). -/

namespace Sys2Proof.Machine

theorem word_succ_ne (a : Word) : a + 1 ≠ a := by
  intro h
  have h := congrArg BitVec.toNat h
  have := a.isLt
  simp [BitVec.toNat_add] at h
  omega

theorem State.memRead8_memWrite8 (s : State) (a x : Word) (b : Byte) :
    (s.memWrite8 a b).memRead8 x = if x = a then b else s.memRead8 x := by
  unfold State.memRead8 State.memWrite8
  simp only [Memory.read_write, BitVec.toNat_inj]

theorem State.devByte_setDevByte (s : State) (a x v : Byte) :
    (s.setDevByte a v).devByte x = if x = a then v else s.devByte x := by
  unfold State.devByte State.setDevByte
  simp only [Memory.read_write, BitVec.toNat_inj]

/-! ### The canonical form is kept -/

theorem State.wf_memWrite8 {s : State} (a : Word) (v : Byte) (h : Memory.wf s.mem ∧ Memory.within s.mem memSize) :
    Memory.wf (s.memWrite8 a v).mem ∧ Memory.within (s.memWrite8 a v).mem memSize :=
  ⟨Memory.wf_write _ _ h.1, Memory.within_write _ a.isLt h.2⟩

theorem State.wf_memWrite16 {s : State} (a v : Word) (h : Memory.wf s.mem ∧ Memory.within s.mem memSize) :
    Memory.wf (s.memWrite16 a v).mem ∧ Memory.within (s.memWrite16 a v).mem memSize :=
  State.wf_memWrite8 _ _ (State.wf_memWrite8 _ _ h)

theorem State.wf_setDevByte {s : State} (a v : Byte) (h : Memory.wf s.dev ∧ Memory.within s.dev devSize) :
    Memory.wf (s.setDevByte a v).dev ∧ Memory.within (s.setDevByte a v).dev devSize :=
  ⟨Memory.wf_write _ _ h.1, Memory.within_write _ a.isLt h.2⟩

theorem State.wf_loadBytes {s : State} (a : Word) (l : List Byte)
    (h : Memory.wf s.mem ∧ Memory.within s.mem memSize) :
    Memory.wf (s.loadBytes a l).mem ∧ Memory.within (s.loadBytes a l).mem memSize := by
  induction l generalizing s a with
  | nil => exact h
  | cons b l ih => exact ih _ (State.wf_memWrite8 _ _ h)

theorem State.wf_writePayload {s : State} (l : List (Byte × Byte))
    (h : Memory.wf s.dev ∧ Memory.within s.dev devSize) :
    Memory.wf (s.writePayload l).dev ∧ Memory.within (s.writePayload l).dev devSize := by
  induction l generalizing s with
  | nil => exact h
  | cons c l ih => exact ih (State.wf_setDevByte _ _ h)

/-! ### Device accesses: the two hosts, and what neither touches -/

theorem State.devRead_reference {s : State} (h : s.binding = .reference) (a : Byte) :
    s.devRead a = (s.devByte a, s) := by
  unfold State.devRead State.onRead; simp only [h]

theorem State.devRead_other {s : State} (h : s.binding = .other) (a : Byte) :
    s.devRead a = ((Config.hostRead s.hostState s.dev a).2,
      { s with hostState := (Config.hostRead s.hostState s.dev a).1 }) := by
  unfold State.devRead State.onRead; simp only [h]

/-- A device read changes at most the host's state (20_memory.md R52). -/
theorem State.devRead_frame (s : State) (a : Byte) :
    (s.devRead a).2 = { s with hostState := (s.devRead a).2.hostState } := by
  unfold State.devRead State.onRead; split <;> rfl

/-- A device write changes at most the device surface, the console output and the host's state
(20_memory.md R53, R55). -/
theorem State.devWrite_frame (s : State) (a v : Byte) :
    s.devWrite a v = { s with dev := Memory.write s.dev a.toNat v, out := (s.devWrite a v).out,
                              hostState := (s.devWrite a v).hostState } := by
  unfold State.devWrite State.onWrite State.setDevByte
  split
  · split <;> rfl
  · rfl

/-! ### Lists of writes -/

theorem State.loadBytes_frame (s : State) (a : Word) (l : List Byte) :
    s.loadBytes a l = { s with mem := (s.loadBytes a l).mem } := by
  induction l generalizing s a with
  | nil => rfl
  | cons b l ih => exact ih _ _

theorem State.writeBytes_frame (s : State) (a : Word) (l : List Byte) :
    s.writeBytes a l = { s with mem := (s.writeBytes a l).mem } := by
  induction l generalizing s a with
  | nil => rfl
  | cons b l ih => exact ih _ _

theorem State.writePayload_frame (s : State) (l : List (Byte × Byte)) :
    s.writePayload l = { s with dev := (s.writePayload l).dev } := by
  induction l generalizing s with
  | nil => rfl
  | cons c l ih => exact ih _

end Sys2Proof.Machine
end

