-- ==== Sys2Proof/Laws/Bytes.lean ====
section
/-! SUPPORT. Words and their bytes, and items of the operand width. -/

namespace Sys2Proof.Machine

@[simp] theorem hiByte_wordOf (h l : Byte) : hiByte (wordOf h l) = h := by
  apply BitVec.eq_of_toNat_eq
  simp only [hiByte, wordOf, BitVec.extractLsb'_toNat, BitVec.toNat_append]
  rw [← Nat.shiftLeft_add_eq_or_of_lt l.isLt, Nat.shiftLeft_eq, Nat.shiftRight_eq_div_pow]
  have := h.isLt; have := l.isLt; omega

@[simp] theorem loByte_wordOf (h l : Byte) : loByte (wordOf h l) = l := by
  apply BitVec.eq_of_toNat_eq
  simp only [loByte, wordOf, BitVec.extractLsb'_toNat, BitVec.toNat_append]
  rw [← Nat.shiftLeft_add_eq_or_of_lt l.isLt, Nat.shiftLeft_eq, Nat.shiftRight_zero]
  have := h.isLt; have := l.isLt; omega

theorem wordOf_toNat (h l : Byte) : (wordOf h l).toNat = h.toNat * 256 + l.toNat := by
  simp only [wordOf, BitVec.toNat_append]
  rw [← Nat.shiftLeft_add_eq_or_of_lt l.isLt, Nat.shiftLeft_eq]

theorem hiByte_toNat (v : Word) : (hiByte v).toNat = v.toNat / 256 := by
  simp only [hiByte, BitVec.extractLsb'_toNat, Nat.shiftRight_eq_div_pow]
  have := v.isLt; omega

theorem loByte_toNat (v : Word) : (loByte v).toNat = v.toNat % 256 := by
  simp [loByte, BitVec.extractLsb'_toNat]

theorem zeroExtend_toNat (b : Byte) : (zeroExtend b).toNat = b.toNat := by
  simp only [zeroExtend, BitVec.toNat_setWidth]
  have := b.isLt; omega

@[simp] theorem wordOf_hiByte_loByte (v : Word) : wordOf (hiByte v) (loByte v) = v := by
  apply BitVec.eq_of_toNat_eq
  rw [wordOf_toNat, hiByte_toNat, loByte_toNat]; omega

@[simp] theorem loByte_zeroExtend (b : Byte) : loByte (zeroExtend b) = b := by
  apply BitVec.eq_of_toNat_eq
  rw [loByte_toNat, zeroExtend_toNat]; have := b.isLt; omega

end Sys2Proof.Machine

namespace Sys2Proof

open Machine

@[simp] theorem Mode.bytes_length (m : Mode) (v : Word) : (m.bytes v).length = m.width := by
  unfold Mode.bytes Mode.width; split <;> rfl

theorem Mode.width_pos (m : Mode) : 0 < m.width := by unfold Mode.width; split <;> omega

/-- Truncation does not change the bytes that are pushed or stored (40_step_break_literal.md R92). -/
@[simp] theorem Mode.bytes_trunc (m : Mode) (v : Word) : m.bytes (m.trunc v) = m.bytes v := by
  unfold Mode.bytes Mode.trunc; split <;> simp

@[simp] theorem Mode.trunc_trunc (m : Mode) (v : Word) : m.trunc (m.trunc v) = m.trunc v := by
  unfold Mode.trunc; split <;> simp

/-- `trunc(v) = v mod 2^(8n)` (40_step_break_literal.md R92). -/
theorem Mode.trunc_toNat (m : Mode) (v : Word) : (m.trunc v).toNat = v.toNat % 2 ^ (8 * m.width) := by
  unfold Mode.trunc Mode.width
  split
  · have := v.isLt; simp; omega
  · rw [zeroExtend_toNat, loByte_toNat]; rfl

/-- Two items with the same bytes are the same up to truncation. -/
theorem Mode.bytes_congr (m : Mode) {v w : Word} (h : v.toNat % 2 ^ (8 * m.width) = w.toNat % 2 ^ (8 * m.width)) :
    m.bytes v = m.bytes w := by
  rw [← m.bytes_trunc v, ← m.bytes_trunc w]
  exact congrArg m.bytes (BitVec.eq_of_toNat_eq (by rw [m.trunc_toNat, m.trunc_toNat, h]))

theorem Mode.toNat_lt_of_fits {m : Mode} {v : Word} (h : m.Fits v) : v.toNat < 2 ^ (8 * m.width) := by
  rw [← h, m.trunc_toNat]; exact Nat.mod_lt _ (by positivity)

end Sys2Proof
end

