-- ==== Sys2Proof/Laws/Stack.lean ====
section
/-! SUPPORT. The stack unit on pictures: what each push and pop answers and what it does to the content of a
stack and to what pops see of it (spec/10_state.md R16 to R20). -/

namespace Sys2Proof.Machine

@[simp] theorem Stack.below_length (S : Stack) (n : Nat) : (S.below n).length = n := by simp [Stack.below]

@[simp] theorem Stack.content_length (S : Stack) : S.content.length = S.ptr := by simp [Stack.content]

theorem Stack.below_succ (S : Stack) (n : Nat) : S.below (n + 1) = S.below n ++ [Memory.read S.dat n] := by
  simp [Stack.below, List.range_succ]

theorem Stack.below_congr {S T : Stack} {n : Nat}
    (h : ∀ i, i < n → Memory.read S.dat i = Memory.read T.dat i) : S.below n = T.below n :=
  List.map_congr_left fun i hi => h i (List.mem_range.1 hi)

/-- A lower cut of a stack is a prefix of a higher one. -/
theorem Stack.below_append {S : Stack} {n : Nat} {a b : List Byte} (h : S.below n = a ++ b) :
    S.below (n - b.length) = a := by
  have hn : n = a.length + b.length := by simpa using congrArg List.length h
  have : S.below a.length = (S.below n).take a.length := by
    simp only [Stack.below, ← List.map_take, List.take_range]; congr; omega
  rw [hn, Nat.add_sub_cancel, this, h, List.take_left]

/-- The bytes of a picture, by index. -/
theorem Stack.read_of_below {S : Stack} {n : Nat} {a b : List Byte} {x : Byte} (h : S.below n = a ++ x :: b) :
    Memory.read S.dat a.length = x := by
  have hl : n = a.length + (b.length + 1) := by simpa using congrArg List.length h
  have h1 : (S.below n)[a.length]? = some x := by rw [h]; simp
  rw [Stack.below, List.getElem?_map, List.getElem?_range (by omega)] at h1
  simpa using h1

/-- What a stack looks like inside an instruction: `keep` is its keep mark, `kc0` the value the keep cursor
has if it is not in keep mode, `view` what pops see, `content` its content. Outside keep mode the last two
are the same (10_state.md R15, R18). -/
structure Stack.Pic (S : Stack) (keep : Bool) (kc0 : Nat) (view content : List Byte) : Prop where
  keep_eq : S.keep = keep
  view_eq : S.view = view
  content_eq : S.content = content
  same : keep = false → view = content
  kc_eq : keep = false → S.kc = kc0
  kc_le : keep = true → S.kc ≤ S.ptr

/-- A stack that is not in keep mode. -/
theorem Stack.pic_of_not_keep {S : Stack} (h : S.keep = false) : S.Pic false S.kc S.content S.content where
  keep_eq := h
  view_eq := by simp [Stack.view, Stack.content, h]
  content_eq := rfl
  same _ := rfl
  kc_eq _ := rfl
  kc_le h := by cases h

/-- `EnterKeep` lets pops see the whole content (10_state.md R20). -/
theorem Stack.pic_enterKeep (S : Stack) (k : Nat) : S.enterKeep.Pic true k S.content S.content where
  keep_eq := rfl
  view_eq := rfl
  content_eq := rfl
  same h := by cases h
  kc_eq h := by cases h
  kc_le _ := Nat.le_refl _

/-- The stack after a pop of `n` bytes that did not underflow (10_state.md R18, R19). -/
def Stack.drop (S : Stack) (n : Nat) : Stack :=
  if S.keep then { S with kc := S.kc - n } else { S with ptr := S.ptr - n }

/-- A memory with a list of bytes written from an address on. -/
def Memory.writeList (m : Memory) (a : Nat) : List Byte → Memory
  | [] => m
  | b :: l => Memory.writeList (Memory.write m a b) (a + 1) l

/-- The stack after a push of some bytes that did not overflow (10_state.md R16, R17). -/
def Stack.grow (S : Stack) (l : List Byte) : Stack :=
  { S with dat := Memory.writeList S.dat S.ptr l, ptr := S.ptr + l.length }

theorem Memory.read_writeList_below (m : Memory) (a : Nat) (l : List Byte) {i : Nat} (h : i < a) :
    Memory.read (Memory.writeList m a l) i = Memory.read m i := by
  induction l generalizing m a with
  | nil => rfl
  | cons b l ih => rw [Memory.writeList, ih _ _ (by omega), Memory.read_write_other _ _ (by omega)]

theorem Memory.read_writeList_at (m : Memory) (a : Nat) (l : List Byte) {i : Nat} (h : i < l.length) :
    Memory.read (Memory.writeList m a l) (a + i) = l[i] := by
  induction l generalizing m a i with
  | nil => cases h
  | cons b l ih =>
    rw [Memory.writeList]
    cases i with
    | zero => rw [Nat.add_zero, Memory.read_writeList_below _ _ _ (by omega)]; simp
    | succ i =>
      rw [show a + (i + 1) = a + 1 + i by omega, ih _ _ (by simpa using h)]; simp

/-- A stack that grew: what lay below stays, the new bytes lie on top. -/
theorem Stack.grow_below (S : Stack) (l : List Byte) {n : Nat} (h : n ≤ S.ptr) :
    (S.grow l).below n = S.below n :=
  Stack.below_congr fun _ hi => Memory.read_writeList_below _ _ _ (by omega)

theorem Stack.grow_content (S : Stack) (l : List Byte) : (S.grow l).content = S.content ++ l := by
  apply List.ext_getElem?
  intro i
  simp only [Stack.content, Stack.below, Stack.grow, List.getElem?_append, List.getElem?_map,
    List.length_map, List.length_range]
  by_cases h : i < S.ptr
  · rw [if_pos h, List.getElem?_range (by omega), List.getElem?_range h]
    simp [Memory.read_writeList_below _ _ _ h]
  · rw [if_neg h]
    by_cases h2 : i - S.ptr < l.length
    · rw [List.getElem?_range (by omega), List.getElem?_eq_getElem h2]
      simp only [Option.map_some, Option.some.injEq]
      rw [← Memory.read_writeList_at S.dat S.ptr l h2]; congr 1; omega
    · rw [List.getElem?_eq_none (by simp; omega), List.getElem?_eq_none (by omega)]; rfl

/-- A push on a picture: never affected by keep mode, and in keep mode pops do not see it (10_state.md R15,
R16). -/
theorem Stack.Pic.grow {S : Stack} {k : Bool} {kc0 : Nat} {v c : List Byte} (h : S.Pic k kc0 v c)
    (l : List Byte) : (S.grow l).Pic k kc0 (if k then v else v ++ l) (c ++ l) where
  keep_eq := h.keep_eq
  view_eq := by
    have hk : (S.grow l).keep = k := h.keep_eq
    cases k with
    | false =>
      have hv := h.same rfl
      simp only [Stack.view, hk, Bool.false_eq_true, if_false]
      rw [hv, ← h.content_eq]; exact S.grow_content l
    | true =>
      have := h.view_eq
      simp only [Stack.view, hk, h.keep_eq, if_true] at this ⊢
      rw [← this]; exact S.grow_below l (h.kc_le rfl)
  content_eq := by rw [Stack.grow_content, h.content_eq]
  same e := by subst e; simp [h.same rfl]
  kc_eq := h.kc_eq
  kc_le e := Nat.le_trans (h.kc_le e) (Nat.le_add_right _ _)

/-- A pop on a picture: in keep mode the content stays (10_state.md R18, R19). -/
theorem Stack.Pic.drop {S : Stack} {k : Bool} {kc0 : Nat} {a b c : List Byte} {n : Nat}
    (h : S.Pic k kc0 (a ++ b) c) (hn : b.length = n) : (S.drop n).Pic k kc0 a (if k then c else a) := by
  subst hn
  have hview := h.view_eq
  have hcont := h.content_eq
  cases k with
  | false =>
    have hk : S.keep = false := h.keep_eq
    have hd : S.drop b.length = { S with ptr := S.ptr - b.length } := by simp [Stack.drop, hk]
    have hs : S.below S.ptr = a ++ b := by simpa [Stack.view, hk] using hview
    have e : S.below (S.ptr - b.length) = a := Stack.below_append hs
    rw [hd]
    exact ⟨hk, by simp only [Stack.view, hk]; exact e, e, fun _ => rfl, h.kc_eq, (fun e => nomatch e)⟩
  | true =>
    have hk : S.keep = true := h.keep_eq
    have hd : S.drop b.length = { S with kc := S.kc - b.length } := by simp [Stack.drop, hk]
    have hs : S.below S.kc = a ++ b := by simpa [Stack.view, hk] using hview
    have e : S.below (S.kc - b.length) = a := Stack.below_append hs
    rw [hd]
    exact ⟨hk, by simp only [Stack.view, hk]; exact e, hcont, (fun e => nomatch e), (fun e => nomatch e),
      fun _ => Nat.le_trans (Nat.sub_le _ _) (h.kc_le rfl)⟩

/-- How many bytes pops see. -/
theorem Stack.view_length (S : Stack) : S.view.length = if S.keep then S.kc else S.ptr := by
  simp [Stack.view]

theorem Stack.pop8_of_view {S : Stack} {a : List Byte} {x : Byte} (h : S.view = a ++ [x]) :
    S.pop8 = some (x, S.drop 1) := by
  have hl := congrArg List.length h
  have hr : Memory.read S.dat a.length = x := Stack.read_of_below h
  simp only [Stack.view_length, List.length_append, List.length_singleton] at hl
  unfold Stack.pop8 Stack.drop
  split <;> rename_i hk <;> simp only [hk, Bool.false_eq_true, if_true, if_false] at hl ⊢ <;>
    rw [if_neg (by omega), show _ - 1 = a.length by omega, hr]

theorem Stack.pop8_none {S : Stack} (h : S.view.length < 1) : S.pop8 = none := by
  rw [Stack.view_length] at h
  unfold Stack.pop8
  split <;> rename_i hk <;> simp only [hk, Bool.false_eq_true, if_true, if_false] at h <;> rw [if_pos h]

theorem Stack.pop16_of_view {S : Stack} {a : List Byte} {x y : Byte} (h : S.view = a ++ [x, y]) :
    S.pop16 = some (wordOf x y, S.drop 2) := by
  have hl := congrArg List.length h
  have hx : Memory.read S.dat a.length = x := Stack.read_of_below h
  have hy : Memory.read S.dat (a.length + 1) = y := by
    have := Stack.read_of_below (S := S) (a := a ++ [x]) (b := []) (x := y) (by rw [← Stack.view, h]; simp)
    simpa using this
  simp only [Stack.view_length, List.length_append, List.length_cons, List.length_nil] at hl
  unfold Stack.pop16 Stack.drop
  split <;> rename_i hk <;> simp only [hk, Bool.false_eq_true, if_true, if_false] at hl ⊢ <;>
    rw [if_neg (by omega), show _ - 2 = a.length by omega, show _ - 1 = a.length + 1 by omega, hx, hy]

theorem Stack.pop16_none {S : Stack} (h : S.view.length < 2) : S.pop16 = none := by
  rw [Stack.view_length] at h
  unfold Stack.pop16
  split <;> rename_i hk <;> simp only [hk, Bool.false_eq_true, if_true, if_false] at h <;> rw [if_pos h]

theorem Stack.push8_of_room {S : Stack} (v : Byte) (h : S.ptr + 1 ≤ stackMaxDepth) :
    S.push8 v = some (S.grow [v]) := by
  unfold Stack.push8; rw [if_neg (by omega)]; rfl

theorem Stack.push8_none {S : Stack} (v : Byte) (h : stackMaxDepth < S.ptr + 1) : S.push8 v = none := by
  unfold Stack.push8; rw [if_pos h]

theorem Stack.push16_of_room {S : Stack} (v : Word) (h : S.ptr + 2 ≤ stackMaxDepth) :
    S.push16 v = some (S.grow [hiByte v, loByte v]) := by
  unfold Stack.push16; rw [if_neg (by omega)]; rfl

theorem Stack.push16_none {S : Stack} (v : Word) (h : stackMaxDepth < S.ptr + 2) : S.push16 v = none := by
  unfold Stack.push16; rw [if_pos h]

end Sys2Proof.Machine
end

