-- ==== Sys2Proof/Laws/Body.lean ====
section
/-! SUPPORT. The steps of a body, one lemma each: what a pop, a push and the step cycle answer, in terms of
the picture of the stack (spec/40_step_break_literal.md R91, R92). -/

namespace Sys2Proof.Machine

/-! ### Sequencing -/

theorem bind_ok {α β : Type} {x : Body α} {f : α → Body β} {s t : State} {a : α} (h : x s = .ok a t) :
    (x >>= f) s = f a t := by simp only [bind, EStateM.bind, h]

theorem bind_error {α β : Type} {x : Body α} {f : α → Body β} {s t : State} {c : Cause}
    (h : x s = .error c t) : (x >>= f) s = .error c t := by simp only [bind, EStateM.bind, h]

@[simp] theorem pure_run {α : Type} (a : α) (s : State) : (pure a : Body α) s = .ok a s := rfl

@[simp] theorem raise_run {α : Type} (c : Cause) (s : State) : (raise c : Body α) s = .error c s := rfl

@[simp] theorem readPc_bind {β : Type} (f : Word → Body β) (s : State) : (readPc >>= f) s = f s.pc s := rfl

@[simp] theorem writePc_run (v : Word) (s : State) : writePc v s = .ok () { s with pc := v } := rfl

@[simp] theorem load_bind {β : Type} (m : Mode) (a : Word) (f : Word → Body β) (s : State) :
    (load m a >>= f) s = f (if m.short then s.memRead16 a else zeroExtend (s.memRead8 a)) s := rfl

@[simp] theorem store_run (m : Mode) (a v : Word) (s : State) :
    store m a v s = .ok () (if m.short then s.memWrite16 a v else s.memWrite8 a (loByte v)) := rfl

@[simp] theorem readDevice_bind {β : Type} (a : Byte) (f : Byte → Body β) (s : State) :
    (readDevice a >>= f) s = f (s.devRead a).1 (s.devRead a).2 := rfl

@[simp] theorem writeDevice_run (a v : Byte) (s : State) : writeDevice a v s = .ok () (s.devWrite a v) := rfl

@[simp] theorem writeDevice_bind {β : Type} (a v : Byte) (f : Unit → Body β) (s : State) :
    (writeDevice a v >>= f) s = f () (s.devWrite a v) := rfl

@[simp] theorem jump_run (m : Mode) (a : Word) (s : State) :
    jump m a s = .ok () { s with pc := jumpTarget m s.pc a } := rfl

/-! ### Pops -/

/-- `Pop8` where a byte is there to pop. -/
theorem pop8_pic {s : State} {id : StackId} {k : Bool} {kc0 : Nat} {a c : List Byte} {x : Byte}
    (h : (s.stack id).Pic k kc0 (a ++ [x]) c) :
    ∃ S, pop8 id s = .ok x (s.setStack id S) ∧ S.Pic k kc0 a (if k then c else a) :=
  ⟨_, by simp only [pop8, Stack.pop8_of_view h.view_eq], h.drop (n := 1) rfl⟩

/-- `Pop16` where a word is there to pop. -/
theorem pop16_pic {s : State} {id : StackId} {k : Bool} {kc0 : Nat} {a c : List Byte} {v : Word}
    (h : (s.stack id).Pic k kc0 (a ++ [hiByte v, loByte v]) c) :
    ∃ S, pop16 id s = .ok v (s.setStack id S) ∧ S.Pic k kc0 a (if k then c else a) :=
  ⟨_, by simp only [pop16, Stack.pop16_of_view h.view_eq, wordOf_hiByte_loByte], h.drop (n := 2) rfl⟩

/-- The width-aware pop where an item is there to pop. -/
theorem pop_pic {s : State} {m : Mode} {id : StackId} {k : Bool} {kc0 : Nat} {a c : List Byte} {v : Word}
    (hv : m.Fits v) (h : (s.stack id).Pic k kc0 (a ++ m.bytes v) c) :
    ∃ S, pop m id s = .ok v (s.setStack id S) ∧ S.Pic k kc0 a (if k then c else a) := by
  unfold Mode.bytes at h
  unfold pop
  split at h <;> rename_i hm
  · rw [if_pos hm]; exact pop16_pic h
  · rw [if_neg hm]
    obtain ⟨S, e, p⟩ := pop8_pic h
    refine ⟨S, ?_, p⟩
    rw [bind_ok e]
    have : zeroExtend (loByte v) = v := by simpa [Mode.Fits, Mode.trunc, hm] using hv
    simp [this]

/-- `Pop8` where no byte is left. -/
theorem pop8_underflow {s : State} {id : StackId} (h : (s.stack id).view.length < 1) :
    pop8 id s = .error (.stackUnderflow id) s := by simp only [pop8, Stack.pop8_none h]

/-- `Pop16` where fewer than two bytes are left: nothing is removed. -/
theorem pop16_underflow {s : State} {id : StackId} (h : (s.stack id).view.length < 2) :
    pop16 id s = .error (.stackUnderflow id) s := by simp only [pop16, Stack.pop16_none h]

/-- The width-aware pop where fewer bytes are left than the width: nothing is removed. -/
theorem pop_underflow {s : State} {m : Mode} {id : StackId} (h : (s.stack id).view.length < m.width) :
    pop m id s = .error (.stackUnderflow id) s := by
  unfold Mode.width at h
  unfold pop
  split <;> rename_i hm
  · rw [if_pos hm] at h; exact pop16_underflow h
  · rw [if_neg hm] at h; exact bind_error (pop8_underflow h)

/-! ### Pushes -/

/-- `Push8` where there is room. -/
theorem push8_pic {s : State} {id : StackId} {k : Bool} {kc0 : Nat} {a c : List Byte} (v : Byte)
    (h : (s.stack id).Pic k kc0 a c) (room : c.length + 1 ≤ stackMaxDepth) :
    ∃ S, push8 id v s = .ok () (s.setStack id S) ∧ S.Pic k kc0 (if k then a else a ++ [v]) (c ++ [v]) := by
  rw [← h.content_eq, Stack.content_length] at room
  exact ⟨_, by simp only [push8, Stack.push8_of_room v room], h.grow [v]⟩

/-- `Push16` where there is room. -/
theorem push16_pic {s : State} {id : StackId} {k : Bool} {kc0 : Nat} {a c : List Byte} (v : Word)
    (h : (s.stack id).Pic k kc0 a c) (room : c.length + 2 ≤ stackMaxDepth) :
    ∃ S, push16 id v s = .ok () (s.setStack id S) ∧
      S.Pic k kc0 (if k then a else a ++ [hiByte v, loByte v]) (c ++ [hiByte v, loByte v]) := by
  rw [← h.content_eq, Stack.content_length] at room
  exact ⟨_, by simp only [push16, Stack.push16_of_room v room], h.grow [hiByte v, loByte v]⟩

/-- The width-aware push where there is room. -/
theorem push_pic {s : State} {m : Mode} {id : StackId} {k : Bool} {kc0 : Nat} {a c : List Byte} (v : Word)
    (h : (s.stack id).Pic k kc0 a c) (room : c.length + m.width ≤ stackMaxDepth) :
    ∃ S, push m id v s = .ok () (s.setStack id S) ∧
      S.Pic k kc0 (if k then a else a ++ m.bytes v) (c ++ m.bytes v) := by
  unfold Mode.width at room
  unfold push Mode.bytes
  split <;> rename_i hm
  · rw [if_pos hm] at room; exact push16_pic v h room
  · rw [if_neg hm] at room; exact push8_pic (loByte v) h room

/-- `Push8` on a full stack: nothing is written. -/
theorem push8_overflow {s : State} {id : StackId} (v : Byte) (h : stackMaxDepth < (s.stack id).ptr + 1) :
    push8 id v s = .error (.stackOverflow id) s := by simp only [push8, Stack.push8_none v h]

/-- `Push16` without room for two bytes: neither is written. -/
theorem push16_overflow {s : State} {id : StackId} (v : Word) (h : stackMaxDepth < (s.stack id).ptr + 2) :
    push16 id v s = .error (.stackOverflow id) s := by simp only [push16, Stack.push16_none v h]

/-- The width-aware push without room: nothing is written. -/
theorem push_overflow {s : State} {m : Mode} {id : StackId} (v : Word)
    (h : stackMaxDepth < (s.stack id).ptr + m.width) : push m id v s = .error (.stackOverflow id) s := by
  unfold Mode.width at h
  unfold push
  split <;> rename_i hm
  · rw [if_pos hm] at h; exact push16_overflow v h
  · rw [if_neg hm] at h; exact push8_overflow _ h

/-! ### The step cycle -/

@[simp] theorem State.begin_pc (s : State) (m : Mode) : (s.begin m).pc = s.pc + 1 := by
  unfold State.begin State.enterKeep; split <;> simp
@[simp] theorem State.begin_mem (s : State) (m : Mode) : (s.begin m).mem = s.mem := by
  unfold State.begin State.enterKeep; split <;> simp
@[simp] theorem State.begin_dev (s : State) (m : Mode) : (s.begin m).dev = s.dev := by
  unfold State.begin State.enterKeep; split <;> simp
@[simp] theorem State.begin_status (s : State) (m : Mode) : (s.begin m).status = s.status := by
  unfold State.begin State.enterKeep; split <;> simp
@[simp] theorem State.begin_out (s : State) (m : Mode) : (s.begin m).out = s.out := by
  unfold State.begin State.enterKeep; split <;> simp
@[simp] theorem State.begin_binding (s : State) (m : Mode) : (s.begin m).binding = s.binding := by
  unfold State.begin State.enterKeep; split <;> simp
@[simp] theorem State.begin_hostState (s : State) (m : Mode) : (s.begin m).hostState = s.hostState := by
  unfold State.begin State.enterKeep; split <;> simp
@[simp] theorem State.begin_pending (s : State) (m : Mode) : (s.begin m).pending = s.pending := by
  unfold State.begin State.enterKeep; split <;> simp

@[simp] theorem State.begin_dst (s : State) (m : Mode) : (s.begin m).stack m.dst = s.stack m.dst := by
  unfold State.begin State.enterKeep; split <;> simp

@[simp] theorem State.begin_src (s : State) (m : Mode) :
    (s.begin m).stack m.src = if m.keep then (s.stack m.src).enterKeep else s.stack m.src := by
  unfold State.begin State.enterKeep; split <;> simp

theorem State.Ready.keep {s : State} (h : s.Ready) (id : StackId) : (s.stack id).keep = false := by
  cases id
  · exact h.2.1
  · exact h.2.2

/-- The active stack when a body starts: pops see the whole content. -/
theorem State.Ready.begin_pic {s : State} (h : s.Ready) (m : Mode) :
    ((s.begin m).stack m.src).Pic m.keep (s.stack m.src).kc (s.content m.src) (s.content m.src) := by
  rw [State.begin_src]
  cases hk : m.keep with
  | false => exact Stack.pic_of_not_keep (h.keep _)
  | true => exact Stack.pic_enterKeep _ _

/-- The companion stack when a body starts: never in keep mode (10_state.md R14). -/
theorem State.Ready.begin_pic_dst {s : State} (h : s.Ready) (m : Mode) :
    ((s.begin m).stack m.dst).Pic false (s.stack m.dst).kc (s.content m.dst) (s.content m.dst) := by
  rw [State.begin_dst]; exact Stack.pic_of_not_keep (h.keep _)

theorem runBody_ok {m : Mode} {body : Mode → Body Unit} {s t : State} (h : body m (s.begin m) = .ok () t) :
    runBody m body s = .next t.clearKeep := by simp only [runBody, h]

theorem runBody_error {m : Mode} {body : Mode → Body Unit} {s t : State} {c : Cause}
    (h : body m (s.begin m) = .error c t) : runBody m body s = .next (t.takeFault c) := by
  simp only [runBody, h]

/-- The end of keep mode on a picture: the content stays (10_state.md R20). -/
theorem Stack.Pic.leaveKeep {S : Stack} {k : Bool} {kc0 : Nat} {a c : List Byte} (h : S.Pic k kc0 a c) :
    S.leaveKeep.content = c := h.content_eq

end Sys2Proof.Machine
end

