-- ==== Sys2Proof/Laws/Exec.lean ====
section
/-! SUPPORT. The 255 dispatched instructions as 32 bodies under the mode flags of the opcode byte. -/

namespace Sys2Proof.Machine

/-- The pseudocode of a base operation; `lit` is the literal, which only LIT uses. -/
def bodyOf (lit : Word) : Base → Mode → Body Unit
  | .lit => bodyLit lit
  | .inc => bodyInc
  | .pop => bodyPop
  | .dup => bodyDup
  | .nip => bodyNip
  | .swp => bodySwp
  | .ovr => bodyOvr
  | .rot => bodyRot
  | .equ => bodyEqu
  | .neq => bodyNeq
  | .gth => bodyGth
  | .lth => bodyLth
  | .jmp => bodyJmp
  | .jcn => bodyJcn
  | .jsr => bodyJsr
  | .sth => bodySth
  | .ldz => bodyLdz
  | .stz => bodyStz
  | .ldr => bodyLdr
  | .str => bodyStr
  | .lda => bodyLda
  | .sta => bodySta
  | .dei => bodyDei
  | .deo => bodyDeo
  | .add => bodyAdd
  | .sub => bodySub
  | .mul => bodyMul
  | .div => bodyDiv
  | .and => bodyAnd
  | .ora => bodyOra
  | .eor => bodyEor
  | .sft => bodySft

/-- Every instruction but BRK runs the body of its base operation under its mode flags
(spec/40_step_break_literal.md R91). -/
theorem exec_eq_runBody {i : Instr} (h : i ≠ .brk) (s : State) :
    exec i s = runBody i.mode (bodyOf i.literal i.base) s := by
  cases i <;>
    first | rfl | exact absurd rfl h | (simp only [Instr.mode, Instr.base, Instr.opcode]; rfl)

/-- The same by fields: an instruction of the opcode map that is not BRK. -/
theorem exec_ofFields {b : Base} {m : Mode} (lit8 : Byte) (lit16 : Word) (s : State)
    (h : b = .lit → m.short || m.ret || m.keep) :
    exec (Instr.ofFields b m lit8 lit16) s =
      runBody m (bodyOf (if m.short then lit16 else zeroExtend lit8) b) s := by
  obtain ⟨sh, r, k⟩ := m
  cases b <;> cases sh <;> cases r <;> cases k <;> first | rfl | exact absurd (h rfl) (by decide)

/-- Every base operation but LIT: all eight flag variants run its body. -/
theorem exec_ofOp {b : Base} (m : Mode) (s : State) (h : b ≠ .lit) :
    exec (Instr.ofOp b m) s = runBody m (bodyOf 0 b) s := by
  rw [Instr.ofOp, exec_ofFields 0 0 s fun e => absurd e h]
  obtain ⟨sh, r, k⟩ := m
  cases sh <;> rfl

end Sys2Proof.Machine
end

