-- ==== Sys2Proof/Laws/Complete.lean ====
section
/-! SUPPORT. Running a body on the active stack: `Inside m s t view content` says where a body that began in
`s` stands in `t`; each pop and push moves it on, and the step cycle turns the end of a body into the next
state of the instruction (spec/40_step_break_literal.md R91). -/

namespace Sys2Proof.Machine

/-- The body of an instruction that started in `s` has so far changed only the active stack, which now has
the content `content`, pops seeing `view`. -/
def Inside (m : Mode) (s t : State) (view content : List Byte) : Prop :=
  ∃ S : Stack, t = (s.begin m).setStack m.src S ∧ S.Pic m.keep (s.stack m.src).kc view content

namespace Inside

variable {m : Mode} {s t : State} {view content base ops : List Byte}

theorem pic (h : Inside m s t view content) :
    (t.stack m.src).Pic m.keep (s.stack m.src).kc view content := by
  obtain ⟨S, rfl, p⟩ := h; simpa using p

theorem update (h : Inside m s t view content) {S : Stack} {v c : List Byte}
    (p : S.Pic m.keep (s.stack m.src).kc v c) : Inside m s (t.setStack m.src S) v c := by
  obtain ⟨S0, rfl, _⟩ := h; exact ⟨S, by simp, p⟩

/-- A body begins with the whole content in view, nothing popped. -/
theorem start (h : s.Ready) (m : Mode) : Inside m s (s.begin m) (s.content m.src) (m.left (s.content m.src) []) :=
  ⟨(s.begin m).stack m.src, (State.setStack_self _ _).symm, by simpa only [Mode.left, List.append_nil, ite_self] using h.begin_pic m⟩

theorem dst (h : Inside m s t view content) : t.stack m.dst = s.stack m.dst := by
  obtain ⟨S, rfl, _⟩ := h; simp

theorem pc (h : Inside m s t view content) : t.pc = s.pc + 1 := by obtain ⟨S, rfl, _⟩ := h; simp

theorem mem (h : Inside m s t view content) : t.mem = s.mem := by obtain ⟨S, rfl, _⟩ := h; simp

theorem dev (h : Inside m s t view content) : t.dev = s.dev := by obtain ⟨S, rfl, _⟩ := h; simp

theorem sameRest (h : Inside m s t view content) : s.SameRest t := by
  obtain ⟨S, rfl, _⟩ := h; simp [State.SameRest]

/-! ### Pops and pushes on the active stack -/

theorem left_pop {a b c : List Byte} : (if m.keep then m.left (a ++ b) c else a) = m.left a (b ++ c) := by
  unfold Mode.left; split <;> simp

theorem pop8 {x : Byte} (h : Inside m s t (base ++ [x]) (m.left (base ++ [x]) ops)) :
    ∃ t', pop8 m.src t = .ok x t' ∧ Inside m s t' base (m.left base (x :: ops)) := by
  obtain ⟨S, e, p⟩ := pop8_pic h.pic
  rw [left_pop] at p
  exact ⟨_, e, h.update p⟩

theorem pop16 {v : Word} (h : Inside m s t (base ++ [hiByte v, loByte v]) (m.left (base ++ [hiByte v, loByte v]) ops)) :
    ∃ t', pop16 m.src t = .ok v t' ∧ Inside m s t' base (m.left base (hiByte v :: loByte v :: ops)) := by
  obtain ⟨S, e, p⟩ := pop16_pic h.pic
  rw [left_pop] at p
  exact ⟨_, e, h.update p⟩

theorem pop {v : Word} (hv : m.Fits v) (h : Inside m s t (base ++ m.bytes v) (m.left (base ++ m.bytes v) ops)) :
    ∃ t', pop m m.src t = .ok v t' ∧ Inside m s t' base (m.left base (m.bytes v ++ ops)) := by
  obtain ⟨S, e, p⟩ := pop_pic hv h.pic
  rw [left_pop] at p
  exact ⟨_, e, h.update p⟩

theorem push8 (v : Byte) (h : Inside m s t view content) (room : content.length + 1 ≤ 255) :
    ∃ t' w, push8 m.src v t = .ok () t' ∧ Inside m s t' w (content ++ [v]) := by
  obtain ⟨S, e, p⟩ := push8_pic v h.pic room
  exact ⟨_, _, e, h.update p⟩

theorem push16 (v : Word) (h : Inside m s t view content) (room : content.length + 2 ≤ 255) :
    ∃ t' w, push16 m.src v t = .ok () t' ∧ Inside m s t' w (content ++ [hiByte v, loByte v]) := by
  obtain ⟨S, e, p⟩ := push16_pic v h.pic room
  exact ⟨_, _, e, h.update p⟩

theorem push (v : Word) (h : Inside m s t view content) (room : content.length + m.width ≤ 255) :
    ∃ t' w, push m m.src v t = .ok () t' ∧ Inside m s t' w (content ++ m.bytes v) := by
  obtain ⟨S, e, p⟩ := push_pic v h.pic room
  exact ⟨_, _, e, h.update p⟩

theorem pop8_underflow (h : Inside m s t view content) (few : view.length < 1) :
    Machine.pop8 m.src t = .error (.stackUnderflow m.src) t :=
  Machine.pop8_underflow (by rw [h.pic.view_eq]; exact few)

theorem pop16_underflow (h : Inside m s t view content) (few : view.length < 2) :
    Machine.pop16 m.src t = .error (.stackUnderflow m.src) t :=
  Machine.pop16_underflow (by rw [h.pic.view_eq]; exact few)

theorem pop_underflow (h : Inside m s t view content) (few : view.length < m.width) :
    Machine.pop m m.src t = .error (.stackUnderflow m.src) t :=
  Machine.pop_underflow (by rw [h.pic.view_eq]; exact few)

theorem ptr (h : Inside m s t view content) : (t.stack m.src).ptr = content.length := by
  rw [← h.pic.content_eq, Stack.content_length]

theorem push8_overflow (v : Byte) (h : Inside m s t view content) (full : 255 < content.length + 1) :
    Machine.push8 m.src v t = .error (.stackOverflow m.src) t :=
  Machine.push8_overflow v (by rw [h.ptr]; exact full)

theorem push16_overflow (v : Word) (h : Inside m s t view content) (full : 255 < content.length + 2) :
    Machine.push16 m.src v t = .error (.stackOverflow m.src) t :=
  Machine.push16_overflow v (by rw [h.ptr]; exact full)

theorem push_overflow (v : Word) (h : Inside m s t view content) (full : 255 < content.length + m.width) :
    Machine.push m m.src v t = .error (.stackOverflow m.src) t :=
  Machine.push_overflow v (by rw [h.ptr]; exact full)

end Inside

/-! ### The end of a body -/

/-- The active stack after keep mode ends, of a body that left the companion stack alone. -/
theorem srcBecomes_clearKeep {s t : State} {m : Mode} (h : s.Ready) {v c : List Byte}
    (p : (t.stack m.src).Pic m.keep (s.stack m.src).kc v c) (ht : t.stack m.dst = s.stack m.dst) :
    SrcBecomes m s t.clearKeep c :=
  ⟨by rw [State.content, State.clearKeep_stack]; exact p.leaveKeep,
    by rw [State.clearKeep_stack, ht, Stack.leaveKeep_of_not_keep (h.keep _)],
    by rw [State.clearKeep_stack]; rfl,
    fun hk => by rw [State.clearKeep_stack]; exact p.kc_eq hk⟩

/-- The same at a fault. -/
theorem srcBecomes_takeFault {s t : State} {m : Mode} (h : s.Ready) {v c : List Byte} (cause : Cause)
    (p : (t.stack m.src).Pic m.keep (s.stack m.src).kc v c) (ht : t.stack m.dst = s.stack m.dst) :
    SrcBecomes m s (t.takeFault cause) c :=
  ⟨by rw [State.content, State.takeFault_stack]; exact p.leaveKeep,
    by rw [State.takeFault_stack, ht, Stack.leaveKeep_of_not_keep (h.keep _)],
    by rw [State.takeFault_stack]; rfl,
    fun hk => by rw [State.takeFault_stack]; exact p.kc_eq hk⟩

/-- An instruction whose body changed nothing but the active stack completes. -/
theorem completes_of_inside {b : Base} {m : Mode} {s t : State} {v c : List Byte} (h : s.Ready)
    (hb : b ≠ .lit) (e : bodyOf 0 b m (s.begin m) = .ok () t) (i : Inside m s t v c) : Completes b m s c :=
  ⟨_, (exec_ofOp m s hb).trans (runBody_ok e), srcBecomes_clearKeep h i.pic i.dst, i.pc, i.sameRest⟩

/-- The picture depends on the two stacks only. -/
theorem srcBecomes_congr {m : Mode} {s t u : State} {c : List Byte} (hw : u.wst = t.wst) (hr : u.rst = t.rst)
    (h : SrcBecomes m s t c) : SrcBecomes m s u c := by
  unfold SrcBecomes State.content at *
  cases hsrc : m.src <;> cases hdst : m.dst <;> simpa [State.stack, hsrc, hdst, hw, hr] using h

/-- The companion stack inside a body that has not touched it: its whole content in view. -/
theorem Inside.dst_pic {m : Mode} {s t : State} {v c : List Byte} (i : Inside m s t v c) (h : s.Ready) :
    (t.stack m.dst).Pic false (s.stack m.dst).kc (s.content m.dst) (s.content m.dst) := by
  rw [i.dst]; exact Stack.pic_of_not_keep (h.keep _)

/-- Inside a body the program counter is one past the opcode byte, so a relative jump goes to the opcode's
address plus one plus the offset (43_control_flow.md R120). -/
theorem jumpTarget_succ (m : Mode) (pc a : Word) : jumpTarget m (pc + 1) a = landing m pc a := by
  unfold jumpTarget landing signExtend8
  split
  · rfl
  · apply BitVec.eq_of_toInt_eq
    rw [BitVec.toInt_add, BitVec.toInt_signExtend, BitVec.toInt_ofInt]
    simp
    have h1 : ((loByte a).toInt).bmod 256 = (loByte a).toInt := by
      have := (loByte a).toInt_lt
      have := (loByte a).le_toInt
      simp only [Int.bmod_def] at *
      omega
    rw [h1]
    generalize (loByte a).toInt = z
    have hp := BitVec.toInt_eq_toNat_cond pc
    simp only [Int.bmod_def]
    split at hp <;> omega

end Sys2Proof.Machine
end

