-- ==== Sys2Proof/Laws/Couples.lean ====
section
/-! SUPPORT. Two runs of one body side by side: a relation between states under which each piece of a body
answers alike, holds across the whole body (spec/10_state.md R11, R13). -/

namespace Sys2Proof.Machine

/-- From related states the piece `x` answers the same value or raises the same cause, in related states. -/
def Couples {α : Type} (R : State → State → Prop) (x : Body α) : Prop :=
  ∀ s t, R s t → match x s, x t with
    | .ok a u, .ok b v => a = b ∧ R u v
    | .error c u, .error d v => c = d ∧ R u v
    | _, _ => False

namespace Couples

variable {R : State → State → Prop} {α β : Type}

theorem bind {x : Body α} {f : α → Body β} (hx : Couples R x) (hf : ∀ a, Couples R (f a)) :
    Couples R (x >>= f) := by
  intro s t h
  have h1 := hx s t h
  cases e1 : x s with
  | ok a u =>
    cases e2 : x t with
    | ok b v =>
      rw [e1, e2] at h1
      obtain ⟨rfl, h1⟩ := h1
      rw [bind_ok e1, bind_ok e2]
      exact hf a u v h1
    | error d v => rw [e1, e2] at h1; exact h1.elim
  | error c u =>
    cases e2 : x t with
    | ok b v => rw [e1, e2] at h1; exact h1.elim
    | error d v => rw [bind_error e1, bind_error e2]; rw [e1, e2] at h1; exact h1

theorem pure (a : α) : Couples R (Pure.pure a : Body α) := fun _ _ h => ⟨rfl, h⟩

theorem raise (c : Cause) : Couples R (raise c : Body α) := fun _ _ h => ⟨rfl, h⟩

theorem ite {p : Prop} [Decidable p] {x y : Body α} (hx : Couples R x) (hy : Couples R y) :
    Couples R (if p then x else y) := by
  split
  · exact hx
  · exact hy

end Couples

/-- A relation that couples every piece a body can be made of. -/
structure CouplesPieces (R : State → State → Prop) : Prop where
  pop8 : ∀ id, Couples R (pop8 id)
  pop16 : ∀ id, Couples R (pop16 id)
  push8 : ∀ id v, Couples R (push8 id v)
  push16 : ∀ id v, Couples R (push16 id v)
  readPc : Couples R readPc
  writePc : ∀ v, Couples R (writePc v)
  load : ∀ m a, Couples R (load m a)
  store : ∀ m a v, Couples R (store m a v)
  readDevice : ∀ a, Couples R (readDevice a)
  writeDevice : ∀ a v, Couples R (writeDevice a v)

namespace CouplesPieces

variable {R : State → State → Prop}

theorem pop (h : CouplesPieces R) (m : Mode) (id : StackId) : Couples R (pop m id) :=
  .ite (h.pop16 id) (.bind (h.pop8 id) fun _ => .pure _)

theorem push (h : CouplesPieces R) (m : Mode) (id : StackId) (v : Word) : Couples R (push m id v) :=
  .ite (h.push16 id v) (h.push8 id _)

theorem jump (h : CouplesPieces R) (m : Mode) (a : Word) : Couples R (jump m a) :=
  .bind h.readPc fun _ => h.writePc _

/-- Every body is coupled. -/
theorem bodyOf (h : CouplesPieces R) (lit : Word) (b : Base) (m : Mode) : Couples R (bodyOf lit b m) := by
  have pop := h.pop m m.src
  have push := h.push m m.src
  have pop8 := h.pop8 m.src
  have pop16 := h.pop16 m.src
  have bin : ∀ f, Couples R (binary f m) := fun f => .bind pop fun _ => .bind pop fun _ => push _
  have cmp : ∀ f, Couples R (compareItems f m) := fun f => .bind pop fun _ => .bind pop fun _ => h.push8 _ _
  cases b with
  | lit => exact .bind (push _) fun _ => .bind h.readPc fun _ => h.writePc _
  | inc => exact .bind pop fun _ => push _
  | pop => exact .bind pop fun _ => .pure _
  | dup => exact .bind pop fun _ => .bind (push _) fun _ => push _
  | nip => exact .bind pop fun _ => .bind pop fun _ => push _
  | swp => exact .bind pop fun _ => .bind pop fun _ => .bind (push _) fun _ => push _
  | ovr => exact .bind pop fun _ => .bind pop fun _ => .bind (push _) fun _ => .bind (push _) fun _ => push _
  | rot =>
    exact .bind pop fun _ => .bind pop fun _ => .bind pop fun _ => .bind (push _) fun _ =>
      .bind (push _) fun _ => push _
  | equ => exact cmp _
  | neq => exact cmp _
  | gth => exact cmp _
  | lth => exact cmp _
  | jmp => exact .bind pop fun _ => h.jump _ _
  | jcn => exact .bind pop fun _ => .bind pop8 fun _ => .ite (h.jump _ _) (.pure _)
  | jsr => exact .bind pop fun _ => .bind h.readPc fun _ => .bind (h.push16 _ _) fun _ => h.jump _ _
  | sth => exact .bind pop fun _ => h.push _ _ _
  | ldz => exact .bind pop8 fun _ => .bind (h.load _ _) fun _ => push _
  | stz => exact .bind pop8 fun _ => .bind pop fun _ => h.store _ _ _
  | ldr => exact .bind pop8 fun _ => .bind h.readPc fun _ => .bind (h.load _ _) fun _ => push _
  | str => exact .bind pop8 fun _ => .bind pop fun _ => .bind h.readPc fun _ => h.store _ _ _
  | lda => exact .bind pop16 fun _ => .bind (h.load _ _) fun _ => push _
  | sta => exact .bind pop16 fun _ => .bind pop fun _ => h.store _ _ _
  | dei =>
    exact .bind pop8 fun _ => .ite
      (.bind (h.readDevice _) fun _ => .bind (h.readDevice _) fun _ => h.push16 _ _)
      (.bind (h.readDevice _) fun _ => h.push8 _ _)
  | deo =>
    exact .bind pop8 fun _ => .bind pop fun _ => .ite
      (.bind (h.writeDevice _ _) fun _ => h.writeDevice _ _) (h.writeDevice _ _)
  | add => exact bin _
  | sub => exact bin _
  | mul => exact bin _
  | div => exact .bind pop fun _ => .bind pop fun _ => .ite (.raise _) (push _)
  | and => exact bin _
  | ora => exact bin _
  | eor => exact bin _
  | sft => exact .bind pop8 fun _ => .bind pop fun _ => push _

end CouplesPieces

end Sys2Proof.Machine
end

