-- ==== Sys2Proof/Laws/Keeps.lean ====
section
/-! SUPPORT. What a body can do at most, said once: a relation that holds across each pop, push, load, store,
device access and program counter write that a base operation makes holds across its whole body, whether the
body completes or raises (spec/60_exceptions.md R184). Frames and invariants are its instances. -/

namespace Sys2Proof.Machine

/-- Across the piece `x`, from the state before it to the state after it or at its raise, `R` holds. -/
def Keeps {α : Type} (R : State → State → Prop) (x : Body α) : Prop :=
  ∀ s, match x s with
    | .ok _ t => R s t
    | .error _ t => R s t

namespace Keeps

variable {R : State → State → Prop} {α β : Type}

theorem bind (trans : ∀ s t u, R s t → R t u → R s u) {x : Body α} {f : α → Body β} (hx : Keeps R x)
    (hf : ∀ a, Keeps R (f a)) : Keeps R (x >>= f) := by
  intro s
  have h1 := hx s
  cases e : x s with
  | ok a t =>
    rw [bind_ok e]
    rw [e] at h1
    have h2 := hf a t
    cases e2 : f a t with
    | ok b u => rw [e2] at h2; exact trans _ _ _ h1 h2
    | error c u => rw [e2] at h2; exact trans _ _ _ h1 h2
  | error c t => rw [bind_error e]; rw [e] at h1; exact h1

theorem pure (refl : ∀ s, R s s) (a : α) : Keeps R (Pure.pure a : Body α) := fun s => refl s

theorem raise (refl : ∀ s, R s s) (c : Cause) : Keeps R (raise c : Body α) := fun s => refl s

theorem ite {p : Prop} [Decidable p] {x y : Body α} (hx : p → Keeps R x) (hy : ¬p → Keeps R y) :
    Keeps R (if p then x else y) := by
  split <;> rename_i h
  · exact hx h
  · exact hy h

theorem pop8 {id : StackId} (refl : ∀ s, R s s)
    (h : ∀ s v S, (s.stack id).pop8 = some (v, S) → R s (s.setStack id S)) : Keeps R (pop8 id) := by
  intro s
  unfold Machine.pop8
  cases e : (s.stack id).pop8 with
  | none => exact refl s
  | some p => exact h s p.1 p.2 e

theorem pop16 {id : StackId} (refl : ∀ s, R s s)
    (h : ∀ s v S, (s.stack id).pop16 = some (v, S) → R s (s.setStack id S)) : Keeps R (pop16 id) := by
  intro s
  unfold Machine.pop16
  cases e : (s.stack id).pop16 with
  | none => exact refl s
  | some p => exact h s p.1 p.2 e

theorem push8 {id : StackId} (refl : ∀ s, R s s)
    (h : ∀ s v S, (s.stack id).push8 v = some S → R s (s.setStack id S)) (v : Byte) : Keeps R (push8 id v) := by
  intro s
  unfold Machine.push8
  cases e : (s.stack id).push8 v with
  | none => exact refl s
  | some S => exact h s v S e

theorem push16 {id : StackId} (refl : ∀ s, R s s)
    (h : ∀ s v S, (s.stack id).push16 v = some S → R s (s.setStack id S)) (v : Word) :
    Keeps R (push16 id v) := by
  intro s
  unfold Machine.push16
  cases e : (s.stack id).push16 v with
  | none => exact refl s
  | some S => exact h s v S e

theorem readPc (refl : ∀ s, R s s) : Keeps R readPc := fun s => refl s

theorem load (refl : ∀ s, R s s) (m : Mode) (a : Word) : Keeps R (load m a) := fun s => refl s

theorem writePc (h : ∀ s (v : Word), R s { s with pc := v }) (v : Word) : Keeps R (writePc v) := fun s => h s v

theorem jump (h : ∀ s (v : Word), R s { s with pc := v }) (m : Mode) (a : Word) : Keeps R (jump m a) :=
  fun s => h s _

theorem store (trans : ∀ s t u, R s t → R t u → R s u) (h : ∀ s a v, R s (s.memWrite8 a v)) (m : Mode)
    (a v : Word) : Keeps R (store m a v) := by
  intro s
  show R s (if m.short then s.memWrite16 a v else s.memWrite8 a (loByte v))
  split
  · exact trans _ _ _ (h s a _) (h _ _ _)
  · exact h s a _

theorem readDevice (h : ∀ s a, R s (s.devRead a).2) (a : Byte) : Keeps R (readDevice a) := fun s => h s a

theorem writeDevice (h : ∀ s a v, R s (s.devWrite a v)) (a v : Byte) : Keeps R (writeDevice a v) := fun s => h s a v

end Keeps

/-- A relation that holds across what a piece of a body may do to the stack `id`. -/
structure StackSteps (R : State → State → Prop) (id : StackId) : Prop where
  pop8 : ∀ s v S, (s.stack id).pop8 = some (v, S) → R s (s.setStack id S)
  pop16 : ∀ s v S, (s.stack id).pop16 = some (v, S) → R s (s.setStack id S)
  push8 : ∀ s v S, (s.stack id).push8 v = some S → R s (s.setStack id S)
  push16 : ∀ s v S, (s.stack id).push16 v = some S → R s (s.setStack id S)

/-- A relation across whatever is done to the stack `id`. -/
theorem StackSteps.of_setStack {R : State → State → Prop} {id : StackId} (h : ∀ s S, R s (s.setStack id S)) :
    StackSteps R id := ⟨fun _ _ _ _ => h _ _, fun _ _ _ _ => h _ _, fun _ _ _ _ => h _ _, fun _ _ _ _ => h _ _⟩

section Bodies

variable {R : State → State → Prop} {id : StackId}

theorem StackSteps.pop (h : StackSteps R id) (refl : ∀ s, R s s) (trans : ∀ s t u, R s t → R t u → R s u)
    (m : Mode) : Keeps R (pop m id) := by
  unfold Machine.pop
  exact .ite (fun _ => .pop16 refl h.pop16) fun _ => .bind trans (.pop8 refl h.pop8) fun _ => .pure refl _

theorem StackSteps.push (h : StackSteps R id) (refl : ∀ s, R s s) (m : Mode) (v : Word) :
    Keeps R (push m id v) := by
  unfold Machine.push
  exact .ite (fun _ => .push16 refl h.push16 _) fun _ => .push8 refl h.push8 _

/-- What each base operation can do at most: pops and pushes on the active stack; pushes on the companion
stack by JSR and STH; a write of the program counter by LIT, JMP, JCN and JSR; stores by STZ, STR and STA;
device reads by DEI, device writes by DEO. A reflexive and transitive relation that holds across each of the
pieces that `b` has holds across its body. -/
theorem keeps_bodyOf {b : Base} {m : Mode} {lit : Word} (refl : ∀ s, R s s)
    (trans : ∀ s t u, R s t → R t u → R s u) (src : StackSteps R m.src)
    (dst : b ∈ [Base.jsr, .sth] → StackSteps R m.dst)
    (pc : b ∈ [Base.lit, .jmp, .jcn, .jsr] → ∀ s (v : Word), R s { s with pc := v })
    (mem : b ∈ [Base.stz, .str, .sta] → ∀ s a v, R s (s.memWrite8 a v))
    (read : b = .dei → ∀ s a, R s (s.devRead a).2)
    (write : b = .deo → ∀ s a v, R s (s.devWrite a v)) : Keeps R (bodyOf lit b m) := by
  have pop := src.pop refl trans m
  have push := src.push refl m
  have pop8 := Keeps.pop8 refl src.pop8
  have pop16 := Keeps.pop16 refl src.pop16
  have push8 := Keeps.push8 refl src.push8
  have push16 := Keeps.push16 refl src.push16
  have seq : ∀ {α β : Type} {x : Body α} {f : α → Body β}, Keeps R x → (∀ a, Keeps R (f a)) → Keeps R (x >>= f) :=
    fun hx hf => .bind trans hx hf
  have bin : ∀ f, Keeps R (binary f m) := fun f => seq pop fun _ => seq pop fun _ => push _
  have cmp : ∀ f, Keeps R (compareItems f m) := fun f => seq pop fun _ => seq pop fun _ => push8 _
  cases b with
  | lit => exact seq (push _) fun _ => seq (.readPc refl) fun _ => .writePc (pc (by decide)) _
  | inc => exact seq pop fun _ => push _
  | pop => exact seq pop fun _ => .pure refl _
  | dup => exact seq pop fun _ => seq (push _) fun _ => push _
  | nip => exact seq pop fun _ => seq pop fun _ => push _
  | swp => exact seq pop fun _ => seq pop fun _ => seq (push _) fun _ => push _
  | ovr => exact seq pop fun _ => seq pop fun _ => seq (push _) fun _ => seq (push _) fun _ => push _
  | rot =>
    exact seq pop fun _ => seq pop fun _ => seq pop fun _ => seq (push _) fun _ => seq (push _) fun _ => push _
  | equ => exact cmp _
  | neq => exact cmp _
  | gth => exact cmp _
  | lth => exact cmp _
  | jmp => exact seq pop fun _ => .jump (pc (by decide)) _ _
  | jcn => exact seq pop fun _ => seq pop8 fun _ => .ite (fun _ => .jump (pc (by decide)) _ _) fun _ => .pure refl _
  | jsr =>
    exact seq pop fun _ => seq (.readPc refl) fun _ => seq (.push16 refl (dst (by decide)).push16 _) fun _ =>
      .jump (pc (by decide)) _ _
  | sth => exact seq pop fun _ => (dst (by decide)).push refl m _
  | ldz => exact seq pop8 fun _ => seq (.load refl _ _) fun _ => push _
  | stz => exact seq pop8 fun _ => seq pop fun _ => .store trans (mem (by decide)) _ _ _
  | ldr => exact seq pop8 fun _ => seq (.readPc refl) fun _ => seq (.load refl _ _) fun _ => push _
  | str => exact seq pop8 fun _ => seq pop fun _ => seq (.readPc refl) fun _ => .store trans (mem (by decide)) _ _ _
  | lda => exact seq pop16 fun _ => seq (.load refl _ _) fun _ => push _
  | sta => exact seq pop16 fun _ => seq pop fun _ => .store trans (mem (by decide)) _ _ _
  | dei =>
    exact seq pop8 fun _ => .ite
      (fun _ => seq (.readDevice (read rfl) _) fun _ => seq (.readDevice (read rfl) _) fun _ => push16 _)
      fun _ => seq (.readDevice (read rfl) _) fun _ => push8 _
  | deo =>
    exact seq pop8 fun _ => seq pop fun _ => .ite
      (fun _ => seq (.writeDevice (write rfl) _ _) fun _ => .writeDevice (write rfl) _ _)
      fun _ => .writeDevice (write rfl) _ _
  | add => exact bin _
  | sub => exact bin _
  | mul => exact bin _
  | div => exact seq pop fun _ => seq pop fun _ => .ite (fun _ => .raise refl _) fun _ => push _
  | and => exact bin _
  | ora => exact bin _
  | eor => exact bin _
  | sft => exact seq pop8 fun _ => seq pop fun _ => push _

end Bodies

/-- An instruction but BRK, in terms of its body: the next state is the end of the body with keep mode ended,
or the state at the raise with the fault taken (spec/40_step_break_literal.md R91, spec/60_exceptions.md
R184). -/
theorem exec_next {i : Instr} {s t : State} (hi : i ≠ .brk) (h : exec i s = .next t) :
    (∃ u, bodyOf i.literal i.base i.mode (s.begin i.mode) = .ok () u ∧ t = u.clearKeep) ∨
      ∃ c u, bodyOf i.literal i.base i.mode (s.begin i.mode) = .error c u ∧ t = u.takeFault c := by
  rw [exec_eq_runBody hi] at h
  unfold runBody at h
  split at h <;> injection h with h <;> rename_i e
  · exact .inl ⟨_, e, h.symm⟩
  · exact .inr ⟨_, _, e, h.symm⟩

/-- Every instruction answers a next state: a fault of the machine is taken, as a state (R184). -/
theorem exec_is_next (i : Instr) (s : State) : ∃ t, exec i s = .next t := by
  by_cases hi : i = .brk
  · subst hi; exact ⟨_, rfl⟩
  · rw [exec_eq_runBody hi]; unfold runBody; split <;> exact ⟨_, rfl⟩

/-- A relation across the body of an instruction, at the end of it or at its raise. -/
theorem exec_keeps {i : Instr} {s t : State} {R : State → State → Prop} (hi : i ≠ .brk)
    (k : Keeps R (bodyOf i.literal i.base i.mode)) (h : exec i s = .next t) :
    ∃ u, R (s.begin i.mode) u ∧ (t = u.clearKeep ∨ ∃ c, t = u.takeFault c) := by
  have hk := k (s.begin i.mode)
  rcases exec_next hi h with ⟨u, e, rfl⟩ | ⟨c, u, e, rfl⟩ <;> rw [e] at hk
  · exact ⟨u, hk, .inl rfl⟩
  · exact ⟨u, hk, .inr ⟨c, rfl⟩⟩

end Sys2Proof.Machine
end

