-- ==== Sys2Proof/Laws/PerInstr.lean ====
section
/-! SUPPORT. Per instruction, as syntax: its row of the opcode map (spec/30_encoding.md R72, R74, R79). -/

namespace Sys2Proof.Laws

/-- The row of an instruction: its opcode byte is the encoding of its base operation and mode flags, those
fields and its literal give it back, and its bytes are as many as its opcode byte says. -/
def OpcodeRow.Statement (i : Instr) : Prop :=
  i.opcode = encodeFields i.base i.mode ∧
    Instr.ofFields i.base i.mode (Machine.loByte i.literal) i.literal = i ∧ (encode i).length = i.length

theorem OpcodeRow.of_byte {i : Byte → Instr} {m : Mode} {op : Byte} (h1 : op = encodeFields .lit m)
    (h2 : decodeFields op = (.lit, m)) (h3 : ∀ l8 l16, Instr.ofFields .lit m l8 l16 = i l8) (imm : Byte)
    (ho : (i imm).opcode = op) (hl : (i imm).literal = Machine.zeroExtend imm)
    (hn : (i imm).literalBytes = [imm]) (hs : literalLength op = 1) : Statement (i imm) := by
  unfold Statement encode Instr.base Instr.mode Instr.length
  rw [ho, hl, hn, h2, hs, h3, Machine.loByte_zeroExtend]
  exact ⟨h1, rfl, rfl⟩

theorem OpcodeRow.of_word {i : Word → Instr} {m : Mode} {op : Byte} (h1 : op = encodeFields .lit m)
    (h2 : decodeFields op = (.lit, m)) (h3 : ∀ l8 l16, Instr.ofFields .lit m l8 l16 = i l16) (imm : Word)
    (ho : (i imm).opcode = op) (hl : (i imm).literal = imm)
    (hn : (i imm).literalBytes = [Machine.hiByte imm, Machine.loByte imm]) (hs : literalLength op = 2) :
    Statement (i imm) := by
  unfold Statement encode Instr.base Instr.mode Instr.length
  rw [ho, hl, hn, h2, hs, h3]
  exact ⟨h1, rfl, rfl⟩

theorem OpcodeRow.brk : OpcodeRow.Statement .brk := ⟨rfl, rfl, rfl⟩
theorem OpcodeRow.inc : OpcodeRow.Statement .inc := ⟨rfl, rfl, rfl⟩
theorem OpcodeRow.pop : OpcodeRow.Statement .pop := ⟨rfl, rfl, rfl⟩
theorem OpcodeRow.dup : OpcodeRow.Statement .dup := ⟨rfl, rfl, rfl⟩
theorem OpcodeRow.nip : OpcodeRow.Statement .nip := ⟨rfl, rfl, rfl⟩
theorem OpcodeRow.swp : OpcodeRow.Statement .swp := ⟨rfl, rfl, rfl⟩
theorem OpcodeRow.ovr : OpcodeRow.Statement .ovr := ⟨rfl, rfl, rfl⟩
theorem OpcodeRow.rot : OpcodeRow.Statement .rot := ⟨rfl, rfl, rfl⟩
theorem OpcodeRow.equ : OpcodeRow.Statement .equ := ⟨rfl, rfl, rfl⟩
theorem OpcodeRow.neq : OpcodeRow.Statement .neq := ⟨rfl, rfl, rfl⟩
theorem OpcodeRow.gth : OpcodeRow.Statement .gth := ⟨rfl, rfl, rfl⟩
theorem OpcodeRow.lth : OpcodeRow.Statement .lth := ⟨rfl, rfl, rfl⟩
theorem OpcodeRow.jmp : OpcodeRow.Statement .jmp := ⟨rfl, rfl, rfl⟩
theorem OpcodeRow.jcn : OpcodeRow.Statement .jcn := ⟨rfl, rfl, rfl⟩
theorem OpcodeRow.jsr : OpcodeRow.Statement .jsr := ⟨rfl, rfl, rfl⟩
theorem OpcodeRow.sth : OpcodeRow.Statement .sth := ⟨rfl, rfl, rfl⟩
theorem OpcodeRow.ldz : OpcodeRow.Statement .ldz := ⟨rfl, rfl, rfl⟩
theorem OpcodeRow.stz : OpcodeRow.Statement .stz := ⟨rfl, rfl, rfl⟩
theorem OpcodeRow.ldr : OpcodeRow.Statement .ldr := ⟨rfl, rfl, rfl⟩
theorem OpcodeRow.str : OpcodeRow.Statement .str := ⟨rfl, rfl, rfl⟩
theorem OpcodeRow.lda : OpcodeRow.Statement .lda := ⟨rfl, rfl, rfl⟩
theorem OpcodeRow.sta : OpcodeRow.Statement .sta := ⟨rfl, rfl, rfl⟩
theorem OpcodeRow.dei : OpcodeRow.Statement .dei := ⟨rfl, rfl, rfl⟩
theorem OpcodeRow.deo : OpcodeRow.Statement .deo := ⟨rfl, rfl, rfl⟩
theorem OpcodeRow.add : OpcodeRow.Statement .add := ⟨rfl, rfl, rfl⟩
theorem OpcodeRow.sub : OpcodeRow.Statement .sub := ⟨rfl, rfl, rfl⟩
theorem OpcodeRow.mul : OpcodeRow.Statement .mul := ⟨rfl, rfl, rfl⟩
theorem OpcodeRow.div : OpcodeRow.Statement .div := ⟨rfl, rfl, rfl⟩
theorem OpcodeRow.and : OpcodeRow.Statement .and := ⟨rfl, rfl, rfl⟩
theorem OpcodeRow.ora : OpcodeRow.Statement .ora := ⟨rfl, rfl, rfl⟩
theorem OpcodeRow.eor : OpcodeRow.Statement .eor := ⟨rfl, rfl, rfl⟩
theorem OpcodeRow.sft : OpcodeRow.Statement .sft := ⟨rfl, rfl, rfl⟩
theorem OpcodeRow.lit2 (imm : Word) : OpcodeRow.Statement (.lit2 imm) :=
  OpcodeRow.of_word (m := ⟨true, false, false⟩) (op := 0x20#8) rfl rfl (fun _ _ => rfl) imm rfl rfl rfl rfl
theorem OpcodeRow.inc2 : OpcodeRow.Statement .inc2 := ⟨rfl, rfl, rfl⟩
theorem OpcodeRow.pop2 : OpcodeRow.Statement .pop2 := ⟨rfl, rfl, rfl⟩
theorem OpcodeRow.dup2 : OpcodeRow.Statement .dup2 := ⟨rfl, rfl, rfl⟩
theorem OpcodeRow.nip2 : OpcodeRow.Statement .nip2 := ⟨rfl, rfl, rfl⟩
theorem OpcodeRow.swp2 : OpcodeRow.Statement .swp2 := ⟨rfl, rfl, rfl⟩
theorem OpcodeRow.ovr2 : OpcodeRow.Statement .ovr2 := ⟨rfl, rfl, rfl⟩
theorem OpcodeRow.rot2 : OpcodeRow.Statement .rot2 := ⟨rfl, rfl, rfl⟩
theorem OpcodeRow.equ2 : OpcodeRow.Statement .equ2 := ⟨rfl, rfl, rfl⟩
theorem OpcodeRow.neq2 : OpcodeRow.Statement .neq2 := ⟨rfl, rfl, rfl⟩
theorem OpcodeRow.gth2 : OpcodeRow.Statement .gth2 := ⟨rfl, rfl, rfl⟩
theorem OpcodeRow.lth2 : OpcodeRow.Statement .lth2 := ⟨rfl, rfl, rfl⟩
theorem OpcodeRow.jmp2 : OpcodeRow.Statement .jmp2 := ⟨rfl, rfl, rfl⟩
theorem OpcodeRow.jcn2 : OpcodeRow.Statement .jcn2 := ⟨rfl, rfl, rfl⟩
theorem OpcodeRow.jsr2 : OpcodeRow.Statement .jsr2 := ⟨rfl, rfl, rfl⟩
theorem OpcodeRow.sth2 : OpcodeRow.Statement .sth2 := ⟨rfl, rfl, rfl⟩
theorem OpcodeRow.ldz2 : OpcodeRow.Statement .ldz2 := ⟨rfl, rfl, rfl⟩
theorem OpcodeRow.stz2 : OpcodeRow.Statement .stz2 := ⟨rfl, rfl, rfl⟩
theorem OpcodeRow.ldr2 : OpcodeRow.Statement .ldr2 := ⟨rfl, rfl, rfl⟩
theorem OpcodeRow.str2 : OpcodeRow.Statement .str2 := ⟨rfl, rfl, rfl⟩
theorem OpcodeRow.lda2 : OpcodeRow.Statement .lda2 := ⟨rfl, rfl, rfl⟩
theorem OpcodeRow.sta2 : OpcodeRow.Statement .sta2 := ⟨rfl, rfl, rfl⟩
theorem OpcodeRow.dei2 : OpcodeRow.Statement .dei2 := ⟨rfl, rfl, rfl⟩
theorem OpcodeRow.deo2 : OpcodeRow.Statement .deo2 := ⟨rfl, rfl, rfl⟩
theorem OpcodeRow.add2 : OpcodeRow.Statement .add2 := ⟨rfl, rfl, rfl⟩
theorem OpcodeRow.sub2 : OpcodeRow.Statement .sub2 := ⟨rfl, rfl, rfl⟩
theorem OpcodeRow.mul2 : OpcodeRow.Statement .mul2 := ⟨rfl, rfl, rfl⟩
theorem OpcodeRow.div2 : OpcodeRow.Statement .div2 := ⟨rfl, rfl, rfl⟩
theorem OpcodeRow.and2 : OpcodeRow.Statement .and2 := ⟨rfl, rfl, rfl⟩
theorem OpcodeRow.ora2 : OpcodeRow.Statement .ora2 := ⟨rfl, rfl, rfl⟩
theorem OpcodeRow.eor2 : OpcodeRow.Statement .eor2 := ⟨rfl, rfl, rfl⟩
theorem OpcodeRow.sft2 : OpcodeRow.Statement .sft2 := ⟨rfl, rfl, rfl⟩
theorem OpcodeRow.litr (imm : Byte) : OpcodeRow.Statement (.litr imm) :=
  OpcodeRow.of_byte (m := ⟨false, true, false⟩) (op := 0x40#8) rfl rfl (fun _ _ => rfl) imm rfl rfl rfl rfl
theorem OpcodeRow.incr : OpcodeRow.Statement .incr := ⟨rfl, rfl, rfl⟩
theorem OpcodeRow.popr : OpcodeRow.Statement .popr := ⟨rfl, rfl, rfl⟩
theorem OpcodeRow.dupr : OpcodeRow.Statement .dupr := ⟨rfl, rfl, rfl⟩
theorem OpcodeRow.nipr : OpcodeRow.Statement .nipr := ⟨rfl, rfl, rfl⟩
theorem OpcodeRow.swpr : OpcodeRow.Statement .swpr := ⟨rfl, rfl, rfl⟩
theorem OpcodeRow.ovrr : OpcodeRow.Statement .ovrr := ⟨rfl, rfl, rfl⟩
theorem OpcodeRow.rotr : OpcodeRow.Statement .rotr := ⟨rfl, rfl, rfl⟩
theorem OpcodeRow.equr : OpcodeRow.Statement .equr := ⟨rfl, rfl, rfl⟩
theorem OpcodeRow.neqr : OpcodeRow.Statement .neqr := ⟨rfl, rfl, rfl⟩
theorem OpcodeRow.gthr : OpcodeRow.Statement .gthr := ⟨rfl, rfl, rfl⟩
theorem OpcodeRow.lthr : OpcodeRow.Statement .lthr := ⟨rfl, rfl, rfl⟩
theorem OpcodeRow.jmpr : OpcodeRow.Statement .jmpr := ⟨rfl, rfl, rfl⟩
theorem OpcodeRow.jcnr : OpcodeRow.Statement .jcnr := ⟨rfl, rfl, rfl⟩
theorem OpcodeRow.jsrr : OpcodeRow.Statement .jsrr := ⟨rfl, rfl, rfl⟩
theorem OpcodeRow.sthr : OpcodeRow.Statement .sthr := ⟨rfl, rfl, rfl⟩
theorem OpcodeRow.ldzr : OpcodeRow.Statement .ldzr := ⟨rfl, rfl, rfl⟩
theorem OpcodeRow.stzr : OpcodeRow.Statement .stzr := ⟨rfl, rfl, rfl⟩
theorem OpcodeRow.ldrr : OpcodeRow.Statement .ldrr := ⟨rfl, rfl, rfl⟩
theorem OpcodeRow.strr : OpcodeRow.Statement .strr := ⟨rfl, rfl, rfl⟩
theorem OpcodeRow.ldar : OpcodeRow.Statement .ldar := ⟨rfl, rfl, rfl⟩
theorem OpcodeRow.star : OpcodeRow.Statement .star := ⟨rfl, rfl, rfl⟩
theorem OpcodeRow.deir : OpcodeRow.Statement .deir := ⟨rfl, rfl, rfl⟩
theorem OpcodeRow.deor : OpcodeRow.Statement .deor := ⟨rfl, rfl, rfl⟩
theorem OpcodeRow.addr : OpcodeRow.Statement .addr := ⟨rfl, rfl, rfl⟩
theorem OpcodeRow.subr : OpcodeRow.Statement .subr := ⟨rfl, rfl, rfl⟩
theorem OpcodeRow.mulr : OpcodeRow.Statement .mulr := ⟨rfl, rfl, rfl⟩
theorem OpcodeRow.divr : OpcodeRow.Statement .divr := ⟨rfl, rfl, rfl⟩
theorem OpcodeRow.andr : OpcodeRow.Statement .andr := ⟨rfl, rfl, rfl⟩
theorem OpcodeRow.orar : OpcodeRow.Statement .orar := ⟨rfl, rfl, rfl⟩
theorem OpcodeRow.eorr : OpcodeRow.Statement .eorr := ⟨rfl, rfl, rfl⟩
theorem OpcodeRow.sftr : OpcodeRow.Statement .sftr := ⟨rfl, rfl, rfl⟩
theorem OpcodeRow.lit2r (imm : Word) : OpcodeRow.Statement (.lit2r imm) :=
  OpcodeRow.of_word (m := ⟨true, true, false⟩) (op := 0x60#8) rfl rfl (fun _ _ => rfl) imm rfl rfl rfl rfl
theorem OpcodeRow.inc2r : OpcodeRow.Statement .inc2r := ⟨rfl, rfl, rfl⟩
theorem OpcodeRow.pop2r : OpcodeRow.Statement .pop2r := ⟨rfl, rfl, rfl⟩
theorem OpcodeRow.dup2r : OpcodeRow.Statement .dup2r := ⟨rfl, rfl, rfl⟩
theorem OpcodeRow.nip2r : OpcodeRow.Statement .nip2r := ⟨rfl, rfl, rfl⟩
theorem OpcodeRow.swp2r : OpcodeRow.Statement .swp2r := ⟨rfl, rfl, rfl⟩
theorem OpcodeRow.ovr2r : OpcodeRow.Statement .ovr2r := ⟨rfl, rfl, rfl⟩
theorem OpcodeRow.rot2r : OpcodeRow.Statement .rot2r := ⟨rfl, rfl, rfl⟩
theorem OpcodeRow.equ2r : OpcodeRow.Statement .equ2r := ⟨rfl, rfl, rfl⟩
theorem OpcodeRow.neq2r : OpcodeRow.Statement .neq2r := ⟨rfl, rfl, rfl⟩
theorem OpcodeRow.gth2r : OpcodeRow.Statement .gth2r := ⟨rfl, rfl, rfl⟩
theorem OpcodeRow.lth2r : OpcodeRow.Statement .lth2r := ⟨rfl, rfl, rfl⟩
theorem OpcodeRow.jmp2r : OpcodeRow.Statement .jmp2r := ⟨rfl, rfl, rfl⟩
theorem OpcodeRow.jcn2r : OpcodeRow.Statement .jcn2r := ⟨rfl, rfl, rfl⟩
theorem OpcodeRow.jsr2r : OpcodeRow.Statement .jsr2r := ⟨rfl, rfl, rfl⟩
theorem OpcodeRow.sth2r : OpcodeRow.Statement .sth2r := ⟨rfl, rfl, rfl⟩
theorem OpcodeRow.ldz2r : OpcodeRow.Statement .ldz2r := ⟨rfl, rfl, rfl⟩
theorem OpcodeRow.stz2r : OpcodeRow.Statement .stz2r := ⟨rfl, rfl, rfl⟩
theorem OpcodeRow.ldr2r : OpcodeRow.Statement .ldr2r := ⟨rfl, rfl, rfl⟩
theorem OpcodeRow.str2r : OpcodeRow.Statement .str2r := ⟨rfl, rfl, rfl⟩
theorem OpcodeRow.lda2r : OpcodeRow.Statement .lda2r := ⟨rfl, rfl, rfl⟩
theorem OpcodeRow.sta2r : OpcodeRow.Statement .sta2r := ⟨rfl, rfl, rfl⟩
theorem OpcodeRow.dei2r : OpcodeRow.Statement .dei2r := ⟨rfl, rfl, rfl⟩
theorem OpcodeRow.deo2r : OpcodeRow.Statement .deo2r := ⟨rfl, rfl, rfl⟩
theorem OpcodeRow.add2r : OpcodeRow.Statement .add2r := ⟨rfl, rfl, rfl⟩
theorem OpcodeRow.sub2r : OpcodeRow.Statement .sub2r := ⟨rfl, rfl, rfl⟩
theorem OpcodeRow.mul2r : OpcodeRow.Statement .mul2r := ⟨rfl, rfl, rfl⟩
theorem OpcodeRow.div2r : OpcodeRow.Statement .div2r := ⟨rfl, rfl, rfl⟩
theorem OpcodeRow.and2r : OpcodeRow.Statement .and2r := ⟨rfl, rfl, rfl⟩
theorem OpcodeRow.ora2r : OpcodeRow.Statement .ora2r := ⟨rfl, rfl, rfl⟩
theorem OpcodeRow.eor2r : OpcodeRow.Statement .eor2r := ⟨rfl, rfl, rfl⟩
theorem OpcodeRow.sft2r : OpcodeRow.Statement .sft2r := ⟨rfl, rfl, rfl⟩
theorem OpcodeRow.litk (imm : Byte) : OpcodeRow.Statement (.litk imm) :=
  OpcodeRow.of_byte (m := ⟨false, false, true⟩) (op := 0x80#8) rfl rfl (fun _ _ => rfl) imm rfl rfl rfl rfl
theorem OpcodeRow.inck : OpcodeRow.Statement .inck := ⟨rfl, rfl, rfl⟩
theorem OpcodeRow.popk : OpcodeRow.Statement .popk := ⟨rfl, rfl, rfl⟩
theorem OpcodeRow.dupk : OpcodeRow.Statement .dupk := ⟨rfl, rfl, rfl⟩
theorem OpcodeRow.nipk : OpcodeRow.Statement .nipk := ⟨rfl, rfl, rfl⟩
theorem OpcodeRow.swpk : OpcodeRow.Statement .swpk := ⟨rfl, rfl, rfl⟩
theorem OpcodeRow.ovrk : OpcodeRow.Statement .ovrk := ⟨rfl, rfl, rfl⟩
theorem OpcodeRow.rotk : OpcodeRow.Statement .rotk := ⟨rfl, rfl, rfl⟩
theorem OpcodeRow.equk : OpcodeRow.Statement .equk := ⟨rfl, rfl, rfl⟩
theorem OpcodeRow.neqk : OpcodeRow.Statement .neqk := ⟨rfl, rfl, rfl⟩
theorem OpcodeRow.gthk : OpcodeRow.Statement .gthk := ⟨rfl, rfl, rfl⟩
theorem OpcodeRow.lthk : OpcodeRow.Statement .lthk := ⟨rfl, rfl, rfl⟩
theorem OpcodeRow.jmpk : OpcodeRow.Statement .jmpk := ⟨rfl, rfl, rfl⟩
theorem OpcodeRow.jcnk : OpcodeRow.Statement .jcnk := ⟨rfl, rfl, rfl⟩
theorem OpcodeRow.jsrk : OpcodeRow.Statement .jsrk := ⟨rfl, rfl, rfl⟩
theorem OpcodeRow.sthk : OpcodeRow.Statement .sthk := ⟨rfl, rfl, rfl⟩
theorem OpcodeRow.ldzk : OpcodeRow.Statement .ldzk := ⟨rfl, rfl, rfl⟩
theorem OpcodeRow.stzk : OpcodeRow.Statement .stzk := ⟨rfl, rfl, rfl⟩
theorem OpcodeRow.ldrk : OpcodeRow.Statement .ldrk := ⟨rfl, rfl, rfl⟩
theorem OpcodeRow.strk : OpcodeRow.Statement .strk := ⟨rfl, rfl, rfl⟩
theorem OpcodeRow.ldak : OpcodeRow.Statement .ldak := ⟨rfl, rfl, rfl⟩
theorem OpcodeRow.stak : OpcodeRow.Statement .stak := ⟨rfl, rfl, rfl⟩
theorem OpcodeRow.deik : OpcodeRow.Statement .deik := ⟨rfl, rfl, rfl⟩
theorem OpcodeRow.deok : OpcodeRow.Statement .deok := ⟨rfl, rfl, rfl⟩
theorem OpcodeRow.addk : OpcodeRow.Statement .addk := ⟨rfl, rfl, rfl⟩
theorem OpcodeRow.subk : OpcodeRow.Statement .subk := ⟨rfl, rfl, rfl⟩
theorem OpcodeRow.mulk : OpcodeRow.Statement .mulk := ⟨rfl, rfl, rfl⟩
theorem OpcodeRow.divk : OpcodeRow.Statement .divk := ⟨rfl, rfl, rfl⟩
theorem OpcodeRow.andk : OpcodeRow.Statement .andk := ⟨rfl, rfl, rfl⟩
theorem OpcodeRow.orak : OpcodeRow.Statement .orak := ⟨rfl, rfl, rfl⟩
theorem OpcodeRow.eork : OpcodeRow.Statement .eork := ⟨rfl, rfl, rfl⟩
theorem OpcodeRow.sftk : OpcodeRow.Statement .sftk := ⟨rfl, rfl, rfl⟩
theorem OpcodeRow.lit2k (imm : Word) : OpcodeRow.Statement (.lit2k imm) :=
  OpcodeRow.of_word (m := ⟨true, false, true⟩) (op := 0xA0#8) rfl rfl (fun _ _ => rfl) imm rfl rfl rfl rfl
theorem OpcodeRow.inc2k : OpcodeRow.Statement .inc2k := ⟨rfl, rfl, rfl⟩
theorem OpcodeRow.pop2k : OpcodeRow.Statement .pop2k := ⟨rfl, rfl, rfl⟩
theorem OpcodeRow.dup2k : OpcodeRow.Statement .dup2k := ⟨rfl, rfl, rfl⟩
theorem OpcodeRow.nip2k : OpcodeRow.Statement .nip2k := ⟨rfl, rfl, rfl⟩
theorem OpcodeRow.swp2k : OpcodeRow.Statement .swp2k := ⟨rfl, rfl, rfl⟩
theorem OpcodeRow.ovr2k : OpcodeRow.Statement .ovr2k := ⟨rfl, rfl, rfl⟩
theorem OpcodeRow.rot2k : OpcodeRow.Statement .rot2k := ⟨rfl, rfl, rfl⟩
theorem OpcodeRow.equ2k : OpcodeRow.Statement .equ2k := ⟨rfl, rfl, rfl⟩
theorem OpcodeRow.neq2k : OpcodeRow.Statement .neq2k := ⟨rfl, rfl, rfl⟩
theorem OpcodeRow.gth2k : OpcodeRow.Statement .gth2k := ⟨rfl, rfl, rfl⟩
theorem OpcodeRow.lth2k : OpcodeRow.Statement .lth2k := ⟨rfl, rfl, rfl⟩
theorem OpcodeRow.jmp2k : OpcodeRow.Statement .jmp2k := ⟨rfl, rfl, rfl⟩
theorem OpcodeRow.jcn2k : OpcodeRow.Statement .jcn2k := ⟨rfl, rfl, rfl⟩
theorem OpcodeRow.jsr2k : OpcodeRow.Statement .jsr2k := ⟨rfl, rfl, rfl⟩
theorem OpcodeRow.sth2k : OpcodeRow.Statement .sth2k := ⟨rfl, rfl, rfl⟩
theorem OpcodeRow.ldz2k : OpcodeRow.Statement .ldz2k := ⟨rfl, rfl, rfl⟩
theorem OpcodeRow.stz2k : OpcodeRow.Statement .stz2k := ⟨rfl, rfl, rfl⟩
theorem OpcodeRow.ldr2k : OpcodeRow.Statement .ldr2k := ⟨rfl, rfl, rfl⟩
theorem OpcodeRow.str2k : OpcodeRow.Statement .str2k := ⟨rfl, rfl, rfl⟩
theorem OpcodeRow.lda2k : OpcodeRow.Statement .lda2k := ⟨rfl, rfl, rfl⟩
theorem OpcodeRow.sta2k : OpcodeRow.Statement .sta2k := ⟨rfl, rfl, rfl⟩
theorem OpcodeRow.dei2k : OpcodeRow.Statement .dei2k := ⟨rfl, rfl, rfl⟩
theorem OpcodeRow.deo2k : OpcodeRow.Statement .deo2k := ⟨rfl, rfl, rfl⟩
theorem OpcodeRow.add2k : OpcodeRow.Statement .add2k := ⟨rfl, rfl, rfl⟩
theorem OpcodeRow.sub2k : OpcodeRow.Statement .sub2k := ⟨rfl, rfl, rfl⟩
theorem OpcodeRow.mul2k : OpcodeRow.Statement .mul2k := ⟨rfl, rfl, rfl⟩
theorem OpcodeRow.div2k : OpcodeRow.Statement .div2k := ⟨rfl, rfl, rfl⟩
theorem OpcodeRow.and2k : OpcodeRow.Statement .and2k := ⟨rfl, rfl, rfl⟩
theorem OpcodeRow.ora2k : OpcodeRow.Statement .ora2k := ⟨rfl, rfl, rfl⟩
theorem OpcodeRow.eor2k : OpcodeRow.Statement .eor2k := ⟨rfl, rfl, rfl⟩
theorem OpcodeRow.sft2k : OpcodeRow.Statement .sft2k := ⟨rfl, rfl, rfl⟩
theorem OpcodeRow.litkr (imm : Byte) : OpcodeRow.Statement (.litkr imm) :=
  OpcodeRow.of_byte (m := ⟨false, true, true⟩) (op := 0xC0#8) rfl rfl (fun _ _ => rfl) imm rfl rfl rfl rfl
theorem OpcodeRow.inckr : OpcodeRow.Statement .inckr := ⟨rfl, rfl, rfl⟩
theorem OpcodeRow.popkr : OpcodeRow.Statement .popkr := ⟨rfl, rfl, rfl⟩
theorem OpcodeRow.dupkr : OpcodeRow.Statement .dupkr := ⟨rfl, rfl, rfl⟩
theorem OpcodeRow.nipkr : OpcodeRow.Statement .nipkr := ⟨rfl, rfl, rfl⟩
theorem OpcodeRow.swpkr : OpcodeRow.Statement .swpkr := ⟨rfl, rfl, rfl⟩
theorem OpcodeRow.ovrkr : OpcodeRow.Statement .ovrkr := ⟨rfl, rfl, rfl⟩
theorem OpcodeRow.rotkr : OpcodeRow.Statement .rotkr := ⟨rfl, rfl, rfl⟩
theorem OpcodeRow.equkr : OpcodeRow.Statement .equkr := ⟨rfl, rfl, rfl⟩
theorem OpcodeRow.neqkr : OpcodeRow.Statement .neqkr := ⟨rfl, rfl, rfl⟩
theorem OpcodeRow.gthkr : OpcodeRow.Statement .gthkr := ⟨rfl, rfl, rfl⟩
theorem OpcodeRow.lthkr : OpcodeRow.Statement .lthkr := ⟨rfl, rfl, rfl⟩
theorem OpcodeRow.jmpkr : OpcodeRow.Statement .jmpkr := ⟨rfl, rfl, rfl⟩
theorem OpcodeRow.jcnkr : OpcodeRow.Statement .jcnkr := ⟨rfl, rfl, rfl⟩
theorem OpcodeRow.jsrkr : OpcodeRow.Statement .jsrkr := ⟨rfl, rfl, rfl⟩
theorem OpcodeRow.sthkr : OpcodeRow.Statement .sthkr := ⟨rfl, rfl, rfl⟩
theorem OpcodeRow.ldzkr : OpcodeRow.Statement .ldzkr := ⟨rfl, rfl, rfl⟩
theorem OpcodeRow.stzkr : OpcodeRow.Statement .stzkr := ⟨rfl, rfl, rfl⟩
theorem OpcodeRow.ldrkr : OpcodeRow.Statement .ldrkr := ⟨rfl, rfl, rfl⟩
theorem OpcodeRow.strkr : OpcodeRow.Statement .strkr := ⟨rfl, rfl, rfl⟩
theorem OpcodeRow.ldakr : OpcodeRow.Statement .ldakr := ⟨rfl, rfl, rfl⟩
theorem OpcodeRow.stakr : OpcodeRow.Statement .stakr := ⟨rfl, rfl, rfl⟩
theorem OpcodeRow.deikr : OpcodeRow.Statement .deikr := ⟨rfl, rfl, rfl⟩
theorem OpcodeRow.deokr : OpcodeRow.Statement .deokr := ⟨rfl, rfl, rfl⟩
theorem OpcodeRow.addkr : OpcodeRow.Statement .addkr := ⟨rfl, rfl, rfl⟩
theorem OpcodeRow.subkr : OpcodeRow.Statement .subkr := ⟨rfl, rfl, rfl⟩
theorem OpcodeRow.mulkr : OpcodeRow.Statement .mulkr := ⟨rfl, rfl, rfl⟩
theorem OpcodeRow.divkr : OpcodeRow.Statement .divkr := ⟨rfl, rfl, rfl⟩
theorem OpcodeRow.andkr : OpcodeRow.Statement .andkr := ⟨rfl, rfl, rfl⟩
theorem OpcodeRow.orakr : OpcodeRow.Statement .orakr := ⟨rfl, rfl, rfl⟩
theorem OpcodeRow.eorkr : OpcodeRow.Statement .eorkr := ⟨rfl, rfl, rfl⟩
theorem OpcodeRow.sftkr : OpcodeRow.Statement .sftkr := ⟨rfl, rfl, rfl⟩
theorem OpcodeRow.lit2kr (imm : Word) : OpcodeRow.Statement (.lit2kr imm) :=
  OpcodeRow.of_word (m := ⟨true, true, true⟩) (op := 0xE0#8) rfl rfl (fun _ _ => rfl) imm rfl rfl rfl rfl
theorem OpcodeRow.inc2kr : OpcodeRow.Statement .inc2kr := ⟨rfl, rfl, rfl⟩
theorem OpcodeRow.pop2kr : OpcodeRow.Statement .pop2kr := ⟨rfl, rfl, rfl⟩
theorem OpcodeRow.dup2kr : OpcodeRow.Statement .dup2kr := ⟨rfl, rfl, rfl⟩
theorem OpcodeRow.nip2kr : OpcodeRow.Statement .nip2kr := ⟨rfl, rfl, rfl⟩
theorem OpcodeRow.swp2kr : OpcodeRow.Statement .swp2kr := ⟨rfl, rfl, rfl⟩
theorem OpcodeRow.ovr2kr : OpcodeRow.Statement .ovr2kr := ⟨rfl, rfl, rfl⟩
theorem OpcodeRow.rot2kr : OpcodeRow.Statement .rot2kr := ⟨rfl, rfl, rfl⟩
theorem OpcodeRow.equ2kr : OpcodeRow.Statement .equ2kr := ⟨rfl, rfl, rfl⟩
theorem OpcodeRow.neq2kr : OpcodeRow.Statement .neq2kr := ⟨rfl, rfl, rfl⟩
theorem OpcodeRow.gth2kr : OpcodeRow.Statement .gth2kr := ⟨rfl, rfl, rfl⟩
theorem OpcodeRow.lth2kr : OpcodeRow.Statement .lth2kr := ⟨rfl, rfl, rfl⟩
theorem OpcodeRow.jmp2kr : OpcodeRow.Statement .jmp2kr := ⟨rfl, rfl, rfl⟩
theorem OpcodeRow.jcn2kr : OpcodeRow.Statement .jcn2kr := ⟨rfl, rfl, rfl⟩
theorem OpcodeRow.jsr2kr : OpcodeRow.Statement .jsr2kr := ⟨rfl, rfl, rfl⟩
theorem OpcodeRow.sth2kr : OpcodeRow.Statement .sth2kr := ⟨rfl, rfl, rfl⟩
theorem OpcodeRow.ldz2kr : OpcodeRow.Statement .ldz2kr := ⟨rfl, rfl, rfl⟩
theorem OpcodeRow.stz2kr : OpcodeRow.Statement .stz2kr := ⟨rfl, rfl, rfl⟩
theorem OpcodeRow.ldr2kr : OpcodeRow.Statement .ldr2kr := ⟨rfl, rfl, rfl⟩
theorem OpcodeRow.str2kr : OpcodeRow.Statement .str2kr := ⟨rfl, rfl, rfl⟩
theorem OpcodeRow.lda2kr : OpcodeRow.Statement .lda2kr := ⟨rfl, rfl, rfl⟩
theorem OpcodeRow.sta2kr : OpcodeRow.Statement .sta2kr := ⟨rfl, rfl, rfl⟩
theorem OpcodeRow.dei2kr : OpcodeRow.Statement .dei2kr := ⟨rfl, rfl, rfl⟩
theorem OpcodeRow.deo2kr : OpcodeRow.Statement .deo2kr := ⟨rfl, rfl, rfl⟩
theorem OpcodeRow.add2kr : OpcodeRow.Statement .add2kr := ⟨rfl, rfl, rfl⟩
theorem OpcodeRow.sub2kr : OpcodeRow.Statement .sub2kr := ⟨rfl, rfl, rfl⟩
theorem OpcodeRow.mul2kr : OpcodeRow.Statement .mul2kr := ⟨rfl, rfl, rfl⟩
theorem OpcodeRow.div2kr : OpcodeRow.Statement .div2kr := ⟨rfl, rfl, rfl⟩
theorem OpcodeRow.and2kr : OpcodeRow.Statement .and2kr := ⟨rfl, rfl, rfl⟩
theorem OpcodeRow.ora2kr : OpcodeRow.Statement .ora2kr := ⟨rfl, rfl, rfl⟩
theorem OpcodeRow.eor2kr : OpcodeRow.Statement .eor2kr := ⟨rfl, rfl, rfl⟩
theorem OpcodeRow.sft2kr : OpcodeRow.Statement .sft2kr := ⟨rfl, rfl, rfl⟩

end Sys2Proof.Laws
end

