-- ==== Sys2Proof/Laws/Step.lean ====
section
/-! SUPPORT. What a step can do, said once: a Reset that is due, or by the status the halt, an instruction, a
transaction of the host or the stop of a faulted core (spec/40_step_break_literal.md R91,
spec/60_exceptions.md R185, R196). -/

namespace Sys2Proof.Machine

/-! ### Letting a step of the run pass -/

/-- Letting a step pass moves the host's list and nothing else. -/
theorem State.letPass_frame (s : State) : s.letPass = { s with pending := s.letPass.pending } := by
  unfold State.letPass; split <;> rfl

@[simp] theorem State.letPass_wst (s : State) : s.letPass.wst = s.wst := by rw [s.letPass_frame]
@[simp] theorem State.letPass_rst (s : State) : s.letPass.rst = s.rst := by rw [s.letPass_frame]
@[simp] theorem State.letPass_mem (s : State) : s.letPass.mem = s.mem := by rw [s.letPass_frame]
@[simp] theorem State.letPass_dev (s : State) : s.letPass.dev = s.dev := by rw [s.letPass_frame]
@[simp] theorem State.letPass_pc (s : State) : s.letPass.pc = s.pc := by rw [s.letPass_frame]
@[simp] theorem State.letPass_status (s : State) : s.letPass.status = s.status := by rw [s.letPass_frame]
@[simp] theorem State.letPass_out (s : State) : s.letPass.out = s.out := by rw [s.letPass_frame]
@[simp] theorem State.letPass_binding (s : State) : s.letPass.binding = s.binding := by rw [s.letPass_frame]
@[simp] theorem State.letPass_hostState (s : State) : s.letPass.hostState = s.hostState := by
  rw [s.letPass_frame]
@[simp] theorem State.letPass_stack (s : State) (j : StackId) : s.letPass.stack j = s.stack j := by
  rw [s.letPass_frame]; cases j <;> rfl

@[simp] theorem State.letPass_haltTest (s : State) : s.letPass.haltTest = s.haltTest := by
  rw [s.letPass_frame]; rfl

@[simp] theorem State.letPass_fetch (s : State) : s.letPass.fetch = s.fetch := by
  rw [s.letPass_frame]; rfl

/-- A Reset that waits is one step nearer. -/
theorem State.letPass_reset {s : State} {n : Nat} {rest : List HostCommand}
    (h : s.pending = .reset (n + 1) :: rest) : s.letPass.pending = .reset n :: rest := by
  unfold State.letPass; rw [h]

/-- Without a Reset next, nothing changes. -/
theorem State.letPass_eq {s : State} (h : ∀ n rest, s.pending ≠ .reset n :: rest) : s.letPass = s := by
  unfold State.letPass
  split
  · exact absurd ‹_› (h _ _)
  · rfl

/-! ### When a Reset is due -/

theorem State.resetDue_iff (s : State) :
    s.resetDue = true ↔ ∃ n rest, s.pending = .reset n :: rest ∧ (n = 0 ∨ s.status ≠ .running) := by
  unfold State.resetDue
  split
  · rename_i n rest h
    simp only [Bool.or_eq_true, beq_iff_eq, bne_iff_ne]
    constructor
    · exact fun hd => ⟨n, rest, h, hd⟩
    · rintro ⟨m, later, he, hd⟩
      cases h.symm.trans he
      exact hd
  · rename_i h
    constructor
    · exact fun hd => nomatch hd
    · rintro ⟨n, rest, he, -⟩
      exact absurd he (h n rest)

/-! ### The step -/

/-- What a step can do. -/
inductive StepCases (s : State) : Host.Outcome State Fault Refusal → Prop
  /-- The host's Reset is due. -/
  | reset {n : Nat} {rest : List HostCommand} (pending : s.pending = .reset n :: rest)
      (due : n = 0 ∨ s.status ≠ .running) :
      StepCases s (.next { State.reset with binding := s.binding, hostState := s.hostState, pending := rest })
  /-- A running core halts. -/
  | halts (due : s.resetDue = false) (status : s.status = .running) (test : s.haltTest = true) :
      StepCases s (.next s.letPass.halt)
  /-- A running core runs an instruction. -/
  | runs (due : s.resetDue = false) (status : s.status = .running) (test : s.haltTest = false) :
      StepCases s (exec s.fetch s.letPass)
  /-- A halted core stays idle. -/
  | idle (status : s.status = .halted) (pending : s.pending = []) : StepCases s (.next s)
  /-- The host makes another transaction on a halted core. -/
  | host {c : HostCommand} {rest : List HostCommand} (due : s.resetDue = false) (status : s.status = .halted)
      (pending : s.pending = c :: rest) : StepCases s (transact c { s with pending := rest })
  /-- A faulted core stops. -/
  | stops {c : Cause} (due : s.resetDue = false) (status : s.status = .faulted c) :
      StepCases s (.fault (.terminal c))

theorem step_cases (s : State) : StepCases s (step s) := by
  unfold step
  cases hd : s.resetDue
  · cases hs : s.status with
    | running =>
      cases ht : s.haltTest
      · exact .runs hd hs ht
      · exact .halts hd hs ht
    | halted =>
      cases hp : s.pending with
      | nil => simpa [hostTurn, hp] using StepCases.idle hs hp
      | cons c rest => simpa [hostTurn, hp] using StepCases.host hd hs hp
    | faulted c => exact .stops hd hs
  · obtain ⟨n, rest, hp, hn⟩ := s.resetDue_iff.1 hd
    simpa [hostTurn, hp, transact, State.resetCore] using StepCases.reset hp hn

/-- A step at which the host's Reset is due. -/
theorem step_reset {s : State} {n : Nat} {rest : List HostCommand} (hp : s.pending = .reset n :: rest)
    (hn : n = 0 ∨ s.status ≠ .running) :
    step s = .next { State.reset with binding := s.binding, hostState := s.hostState, pending := rest } := by
  simp [step, s.resetDue_iff.2 ⟨n, rest, hp, hn⟩, hostTurn, hp, transact, State.resetCore]

/-- A step of a running core with no Reset due. -/
theorem step_running {s : State} (hs : s.status = .running) (hd : s.resetDue = false) :
    step s = if s.haltTest then .next s.letPass.halt else exec s.fetch s.letPass := by
  simp [step, hd, hs]

/-- The first of several steps. -/
theorem core_run_succ {s t : State} (k : Nat) (h : step s = .next t) : core.run (k + 1) s = core.run k t := by
  simp only [Host.Core.run]
  rw [show core.step s = .next t from h]

end Sys2Proof.Machine
end

