-- ==== Sys2Proof/Tests/Slice0.lean ====
section
/-! SUPPORT. Small tests: well-formedness, every decoding, single steps with the results the spec's tables
give, and a witness for the hypotheses of each obligation. -/

namespace Sys2Proof.Tests

open Sys2Proof.Machine

/-! ### Small states -/

/-- The cells of some bytes from an address on. -/
def cellsFrom (a : Nat) : List Byte → Memory
  | [] => []
  | b :: rest => if b = 0 then cellsFrom (a + 1) rest else (a, b) :: cellsFrom (a + 1) rest

/-- The stack with some content, bottom first. -/
def stackOf (l : List Byte) : Stack := { Stack.empty with dat := cellsFrom 0 l, ptr := l.length }

/-- The stack with `n` bytes 0x00. -/
def zeros (n : Nat) : Stack := { Stack.empty with ptr := n }

/-- A running state with two stacks, at an address. -/
def start (w r : Stack) (pc : Word) : State := { State.reset with wst := w, rst := r, pc := pc, status := .running }

/-- The state after reset with a host other than the reference one. -/
def otherHost : State := { State.reset with binding := .other }

/-- The state after one step, some bytes being put at the program counter first. -/
def ran (bytes : List Byte) (s : State) : State :=
  match step (s.writeBytes s.pc bytes) with
  | .next t => t
  | _ => s

/-- The status of an outcome that is a next state. -/
def statusOf : Host.Outcome State Fault Refusal → Option Status
  | .next t => some t.status
  | _ => none

/-! ### Well-formedness -/

theorem wf_loadImage (img : List Byte) : (HostCommand.loadImage img).wf = decide (img.length ≤ 65280) := rfl

theorem test_wf_refuses_long_image : (HostCommand.loadImage (List.replicate 65281 0)).wf = false := by
  rw [wf_loadImage, List.length_replicate]; rfl

theorem test_wf_accepts_longest_image : (HostCommand.loadImage (List.replicate 65280 0)).wf = true := by
  rw [wf_loadImage, List.length_replicate]; rfl

theorem test_decode_refuses_short_lists :
    decode [] = .error .noOpcode ∧ decode [0x80] = .error .literalCutShort ∧
      decode [0x20, 0x12] = .error .literalCutShort := ⟨rfl, rfl, rfl⟩

/-! ### Decoding: every opcode byte, from the table of 30_encoding.md R79 -/

/-- The instruction read from some bytes, all of them used. -/
def read (bytes : List Byte) : Option Instr :=
  match decode bytes with
  | .ok (i, []) => some i
  | _ => none

theorem test_decode_lit : read [0x00] = some .brk ∧ read [0x20, 0x12, 0x34] = some (.lit2 0x1234) ∧
    read [0x40, 0x05] = some (.litr 0x05) ∧ read [0x60, 0x12, 0x34] = some (.lit2r 0x1234) ∧
    read [0x80, 0x05] = some (.litk 0x05) ∧ read [0xA0, 0xAB, 0xCD] = some (.lit2k 0xABCD) ∧
    read [0xC0, 0x05] = some (.litkr 0x05) ∧ read [0xE0, 0x12, 0x34] = some (.lit2kr 0x1234) := by decide

theorem test_decode_inc : ([0x01, 0x21, 0x41, 0x61, 0x81, 0xA1, 0xC1, 0xE1] : List Byte).map (fun b => read [b]) =
    ([.inc, .inc2, .incr, .inc2r, .inck, .inc2k, .inckr, .inc2kr] : List Instr).map some := by decide

theorem test_decode_pop : ([0x02, 0x22, 0x42, 0x62, 0x82, 0xA2, 0xC2, 0xE2] : List Byte).map (fun b => read [b]) =
    ([.pop, .pop2, .popr, .pop2r, .popk, .pop2k, .popkr, .pop2kr] : List Instr).map some := by decide

theorem test_decode_dup : ([0x03, 0x23, 0x43, 0x63, 0x83, 0xA3, 0xC3, 0xE3] : List Byte).map (fun b => read [b]) =
    ([.dup, .dup2, .dupr, .dup2r, .dupk, .dup2k, .dupkr, .dup2kr] : List Instr).map some := by decide

theorem test_decode_nip : ([0x04, 0x24, 0x44, 0x64, 0x84, 0xA4, 0xC4, 0xE4] : List Byte).map (fun b => read [b]) =
    ([.nip, .nip2, .nipr, .nip2r, .nipk, .nip2k, .nipkr, .nip2kr] : List Instr).map some := by decide

theorem test_decode_swp : ([0x05, 0x25, 0x45, 0x65, 0x85, 0xA5, 0xC5, 0xE5] : List Byte).map (fun b => read [b]) =
    ([.swp, .swp2, .swpr, .swp2r, .swpk, .swp2k, .swpkr, .swp2kr] : List Instr).map some := by decide

theorem test_decode_ovr : ([0x06, 0x26, 0x46, 0x66, 0x86, 0xA6, 0xC6, 0xE6] : List Byte).map (fun b => read [b]) =
    ([.ovr, .ovr2, .ovrr, .ovr2r, .ovrk, .ovr2k, .ovrkr, .ovr2kr] : List Instr).map some := by decide

theorem test_decode_rot : ([0x07, 0x27, 0x47, 0x67, 0x87, 0xA7, 0xC7, 0xE7] : List Byte).map (fun b => read [b]) =
    ([.rot, .rot2, .rotr, .rot2r, .rotk, .rot2k, .rotkr, .rot2kr] : List Instr).map some := by decide

theorem test_decode_equ : ([0x08, 0x28, 0x48, 0x68, 0x88, 0xA8, 0xC8, 0xE8] : List Byte).map (fun b => read [b]) =
    ([.equ, .equ2, .equr, .equ2r, .equk, .equ2k, .equkr, .equ2kr] : List Instr).map some := by decide

theorem test_decode_neq : ([0x09, 0x29, 0x49, 0x69, 0x89, 0xA9, 0xC9, 0xE9] : List Byte).map (fun b => read [b]) =
    ([.neq, .neq2, .neqr, .neq2r, .neqk, .neq2k, .neqkr, .neq2kr] : List Instr).map some := by decide

theorem test_decode_gth : ([0x0A, 0x2A, 0x4A, 0x6A, 0x8A, 0xAA, 0xCA, 0xEA] : List Byte).map (fun b => read [b]) =
    ([.gth, .gth2, .gthr, .gth2r, .gthk, .gth2k, .gthkr, .gth2kr] : List Instr).map some := by decide

theorem test_decode_lth : ([0x0B, 0x2B, 0x4B, 0x6B, 0x8B, 0xAB, 0xCB, 0xEB] : List Byte).map (fun b => read [b]) =
    ([.lth, .lth2, .lthr, .lth2r, .lthk, .lth2k, .lthkr, .lth2kr] : List Instr).map some := by decide

theorem test_decode_jmp : ([0x0C, 0x2C, 0x4C, 0x6C, 0x8C, 0xAC, 0xCC, 0xEC] : List Byte).map (fun b => read [b]) =
    ([.jmp, .jmp2, .jmpr, .jmp2r, .jmpk, .jmp2k, .jmpkr, .jmp2kr] : List Instr).map some := by decide

theorem test_decode_jcn : ([0x0D, 0x2D, 0x4D, 0x6D, 0x8D, 0xAD, 0xCD, 0xED] : List Byte).map (fun b => read [b]) =
    ([.jcn, .jcn2, .jcnr, .jcn2r, .jcnk, .jcn2k, .jcnkr, .jcn2kr] : List Instr).map some := by decide

theorem test_decode_jsr : ([0x0E, 0x2E, 0x4E, 0x6E, 0x8E, 0xAE, 0xCE, 0xEE] : List Byte).map (fun b => read [b]) =
    ([.jsr, .jsr2, .jsrr, .jsr2r, .jsrk, .jsr2k, .jsrkr, .jsr2kr] : List Instr).map some := by decide

theorem test_decode_sth : ([0x0F, 0x2F, 0x4F, 0x6F, 0x8F, 0xAF, 0xCF, 0xEF] : List Byte).map (fun b => read [b]) =
    ([.sth, .sth2, .sthr, .sth2r, .sthk, .sth2k, .sthkr, .sth2kr] : List Instr).map some := by decide

theorem test_decode_ldz : ([0x10, 0x30, 0x50, 0x70, 0x90, 0xB0, 0xD0, 0xF0] : List Byte).map (fun b => read [b]) =
    ([.ldz, .ldz2, .ldzr, .ldz2r, .ldzk, .ldz2k, .ldzkr, .ldz2kr] : List Instr).map some := by decide

theorem test_decode_stz : ([0x11, 0x31, 0x51, 0x71, 0x91, 0xB1, 0xD1, 0xF1] : List Byte).map (fun b => read [b]) =
    ([.stz, .stz2, .stzr, .stz2r, .stzk, .stz2k, .stzkr, .stz2kr] : List Instr).map some := by decide

theorem test_decode_ldr : ([0x12, 0x32, 0x52, 0x72, 0x92, 0xB2, 0xD2, 0xF2] : List Byte).map (fun b => read [b]) =
    ([.ldr, .ldr2, .ldrr, .ldr2r, .ldrk, .ldr2k, .ldrkr, .ldr2kr] : List Instr).map some := by decide

theorem test_decode_str : ([0x13, 0x33, 0x53, 0x73, 0x93, 0xB3, 0xD3, 0xF3] : List Byte).map (fun b => read [b]) =
    ([.str, .str2, .strr, .str2r, .strk, .str2k, .strkr, .str2kr] : List Instr).map some := by decide

theorem test_decode_lda : ([0x14, 0x34, 0x54, 0x74, 0x94, 0xB4, 0xD4, 0xF4] : List Byte).map (fun b => read [b]) =
    ([.lda, .lda2, .ldar, .lda2r, .ldak, .lda2k, .ldakr, .lda2kr] : List Instr).map some := by decide

theorem test_decode_sta : ([0x15, 0x35, 0x55, 0x75, 0x95, 0xB5, 0xD5, 0xF5] : List Byte).map (fun b => read [b]) =
    ([.sta, .sta2, .star, .sta2r, .stak, .sta2k, .stakr, .sta2kr] : List Instr).map some := by decide

theorem test_decode_dei : ([0x16, 0x36, 0x56, 0x76, 0x96, 0xB6, 0xD6, 0xF6] : List Byte).map (fun b => read [b]) =
    ([.dei, .dei2, .deir, .dei2r, .deik, .dei2k, .deikr, .dei2kr] : List Instr).map some := by decide

theorem test_decode_deo : ([0x17, 0x37, 0x57, 0x77, 0x97, 0xB7, 0xD7, 0xF7] : List Byte).map (fun b => read [b]) =
    ([.deo, .deo2, .deor, .deo2r, .deok, .deo2k, .deokr, .deo2kr] : List Instr).map some := by decide

theorem test_decode_add : ([0x18, 0x38, 0x58, 0x78, 0x98, 0xB8, 0xD8, 0xF8] : List Byte).map (fun b => read [b]) =
    ([.add, .add2, .addr, .add2r, .addk, .add2k, .addkr, .add2kr] : List Instr).map some := by decide

theorem test_decode_sub : ([0x19, 0x39, 0x59, 0x79, 0x99, 0xB9, 0xD9, 0xF9] : List Byte).map (fun b => read [b]) =
    ([.sub, .sub2, .subr, .sub2r, .subk, .sub2k, .subkr, .sub2kr] : List Instr).map some := by decide

theorem test_decode_mul : ([0x1A, 0x3A, 0x5A, 0x7A, 0x9A, 0xBA, 0xDA, 0xFA] : List Byte).map (fun b => read [b]) =
    ([.mul, .mul2, .mulr, .mul2r, .mulk, .mul2k, .mulkr, .mul2kr] : List Instr).map some := by decide

theorem test_decode_div : ([0x1B, 0x3B, 0x5B, 0x7B, 0x9B, 0xBB, 0xDB, 0xFB] : List Byte).map (fun b => read [b]) =
    ([.div, .div2, .divr, .div2r, .divk, .div2k, .divkr, .div2kr] : List Instr).map some := by decide

theorem test_decode_and : ([0x1C, 0x3C, 0x5C, 0x7C, 0x9C, 0xBC, 0xDC, 0xFC] : List Byte).map (fun b => read [b]) =
    ([.and, .and2, .andr, .and2r, .andk, .and2k, .andkr, .and2kr] : List Instr).map some := by decide

theorem test_decode_ora : ([0x1D, 0x3D, 0x5D, 0x7D, 0x9D, 0xBD, 0xDD, 0xFD] : List Byte).map (fun b => read [b]) =
    ([.ora, .ora2, .orar, .ora2r, .orak, .ora2k, .orakr, .ora2kr] : List Instr).map some := by decide

theorem test_decode_eor : ([0x1E, 0x3E, 0x5E, 0x7E, 0x9E, 0xBE, 0xDE, 0xFE] : List Byte).map (fun b => read [b]) =
    ([.eor, .eor2, .eorr, .eor2r, .eork, .eor2k, .eorkr, .eor2kr] : List Instr).map some := by decide

theorem test_decode_sft : ([0x1F, 0x3F, 0x5F, 0x7F, 0x9F, 0xBF, 0xDF, 0xFF] : List Byte).map (fun b => read [b]) =
    ([.sft, .sft2, .sftr, .sft2r, .sftk, .sft2k, .sftkr, .sft2kr] : List Instr).map some := by decide

/-! ### One step each, from the tables V-40 to V-48 of 95_test_vectors.md -/

/-- `BRK` at 0100, wst [12], rst []. -/
theorem test_brk :
    let t := ran [0x00] (start (stackOf [0x12]) (stackOf []) 0x0100)
    t.wst.content = [0x12] ∧ t.rst.content = [] ∧ t.pc = 0x0100 ∧ t.status = .halted := by decide

/-- `LITk` at 0000, wst [], rst []. -/
theorem test_litk :
    let t := ran [0x80, 0x05] (start (stackOf []) (stackOf []) 0x0000)
    t.wst.content = [] ∧ t.rst.content = [] ∧ t.pc = 0x0000 ∧ t.status = .halted := by decide

/-- `LIT2` at FFFE, wst [], rst []. -/
theorem test_lit2 :
    let t := ran [0x20, 0x12] ({ start (stackOf []) (stackOf []) 0xFFFE with mem := [(0x0, 0x34)] })
    t.wst.content = [0x12, 0x34] ∧ t.rst.content = [] ∧ t.pc = 0x0001 ∧ t.status = .running := by decide

/-- `LIT2` at 0100, wst ptr=254, rst []. -/
theorem test_lit2_b :
    let t := ran [0x20, 0x12, 0x34] (start (zeros 254) (stackOf []) 0x0100)
    t.wst.ptr = 254 ∧ t.rst.content = [] ∧ t.pc = 0x0101 ∧ t.status = .faulted (.stackOverflow .wst) := by decide

/-- `INC2` at 0100, wst [FF FF], rst []. -/
theorem test_inc2 :
    let t := ran [0x21] (start (stackOf [0xFF, 0xFF]) (stackOf []) 0x0100)
    t.wst.content = [0x00, 0x00] ∧ t.rst.content = [] ∧ t.pc = 0x0101 ∧ t.status = .running := by decide

/-- `INC2` at 0100, wst [07], rst []. -/
theorem test_inc2_b :
    let t := ran [0x21] (start (stackOf [0x07]) (stackOf []) 0x0100)
    t.wst.content = [0x07] ∧ t.rst.content = [] ∧ t.pc = 0x0101 ∧ t.status = .faulted (.stackUnderflow .wst) := by decide

/-- `POP2` at 0100, wst [12 34], rst []. -/
theorem test_pop2 :
    let t := ran [0x22] (start (stackOf [0x12, 0x34]) (stackOf []) 0x0100)
    t.wst.content = [] ∧ t.rst.content = [] ∧ t.pc = 0x0101 ∧ t.status = .running := by decide

/-- `POPk` at 0100, wst [12], rst []. -/
theorem test_popk :
    let t := ran [0x82] (start (stackOf [0x12]) (stackOf []) 0x0100)
    t.wst.content = [0x12] ∧ t.rst.content = [] ∧ t.pc = 0x0101 ∧ t.status = .running := by decide

/-- `DUP2` at 0100, wst [12 34], rst []. -/
theorem test_dup2 :
    let t := ran [0x23] (start (stackOf [0x12, 0x34]) (stackOf []) 0x0100)
    t.wst.content = [0x12, 0x34, 0x12, 0x34] ∧ t.rst.content = [] ∧ t.pc = 0x0101 ∧ t.status = .running := by decide

/-- `DUP` at 0100, wst ptr=255, rst []. -/
theorem test_dup :
    let t := ran [0x03] (start (zeros 255) (stackOf []) 0x0100)
    t.wst.ptr = 255 ∧ t.rst.content = [] ∧ t.pc = 0x0101 ∧ t.status = .faulted (.stackOverflow .wst) := by decide

/-- `NIP2` at 0100, wst [11 22 33 44], rst []. -/
theorem test_nip2 :
    let t := ran [0x24] (start (stackOf [0x11, 0x22, 0x33, 0x44]) (stackOf []) 0x0100)
    t.wst.content = [0x33, 0x44] ∧ t.rst.content = [] ∧ t.pc = 0x0101 ∧ t.status = .running := by decide

/-- `NIP` at 0100, wst [12], rst []. -/
theorem test_nip :
    let t := ran [0x04] (start (stackOf [0x12]) (stackOf []) 0x0100)
    t.wst.content = [] ∧ t.rst.content = [] ∧ t.pc = 0x0101 ∧ t.status = .faulted (.stackUnderflow .wst) := by decide

/-- `SWP2` at 0100, wst [11 22 33 44], rst []. -/
theorem test_swp2 :
    let t := ran [0x25] (start (stackOf [0x11, 0x22, 0x33, 0x44]) (stackOf []) 0x0100)
    t.wst.content = [0x33, 0x44, 0x11, 0x22] ∧ t.rst.content = [] ∧ t.pc = 0x0101 ∧ t.status = .running := by decide

/-- `SWPk` at 0100, wst [12 34], rst []. -/
theorem test_swpk :
    let t := ran [0x85] (start (stackOf [0x12, 0x34]) (stackOf []) 0x0100)
    t.wst.content = [0x12, 0x34, 0x34, 0x12] ∧ t.rst.content = [] ∧ t.pc = 0x0101 ∧ t.status = .running := by decide

/-- `OVR2` at 0100, wst [11 22 33 44], rst []. -/
theorem test_ovr2 :
    let t := ran [0x26] (start (stackOf [0x11, 0x22, 0x33, 0x44]) (stackOf []) 0x0100)
    t.wst.content = [0x11, 0x22, 0x33, 0x44, 0x11, 0x22] ∧ t.rst.content = [] ∧ t.pc = 0x0101 ∧ t.status = .running := by decide

/-- `OVRk` at 0100, wst [12 34], rst []. -/
theorem test_ovrk :
    let t := ran [0x86] (start (stackOf [0x12, 0x34]) (stackOf []) 0x0100)
    t.wst.content = [0x12, 0x34, 0x12, 0x34, 0x12] ∧ t.rst.content = [] ∧ t.pc = 0x0101 ∧ t.status = .running := by decide

/-- `ROT2` at 0100, wst [01 02 03 04 05 06], rst []. -/
theorem test_rot2 :
    let t := ran [0x27] (start (stackOf [0x01, 0x02, 0x03, 0x04, 0x05, 0x06]) (stackOf []) 0x0100)
    t.wst.content = [0x03, 0x04, 0x05, 0x06, 0x01, 0x02] ∧ t.rst.content = [] ∧ t.pc = 0x0101 ∧ t.status = .running := by decide

/-- `ROTk` at 0100, wst [01 02 03], rst []. -/
theorem test_rotk :
    let t := ran [0x87] (start (stackOf [0x01, 0x02, 0x03]) (stackOf []) 0x0100)
    t.wst.content = [0x01, 0x02, 0x03, 0x02, 0x03, 0x01] ∧ t.rst.content = [] ∧ t.pc = 0x0101 ∧ t.status = .running := by decide

/-- `EQU2` at 0100, wst ptr=255, rst []. -/
theorem test_equ2 :
    let t := ran [0x28] (start (zeros 255) (stackOf []) 0x0100)
    t.wst.ptr = 252 ∧ t.rst.content = [] ∧ t.pc = 0x0101 ∧ t.status = .running := by decide

/-- `EQUk` at 0100, wst ptr=255, rst []. -/
theorem test_equk :
    let t := ran [0x88] (start (zeros 255) (stackOf []) 0x0100)
    t.wst.ptr = 255 ∧ t.rst.content = [] ∧ t.pc = 0x0101 ∧ t.status = .faulted (.stackOverflow .wst) := by decide

/-- `NEQ2` at 0100, wst [12 34 12 34], rst []. -/
theorem test_neq2 :
    let t := ran [0x29] (start (stackOf [0x12, 0x34, 0x12, 0x34]) (stackOf []) 0x0100)
    t.wst.content = [0x00] ∧ t.rst.content = [] ∧ t.pc = 0x0101 ∧ t.status = .running := by decide

/-- `NEQ` at 0100, wst [12 12], rst []. -/
theorem test_neq :
    let t := ran [0x09] (start (stackOf [0x12, 0x12]) (stackOf []) 0x0100)
    t.wst.content = [0x00] ∧ t.rst.content = [] ∧ t.pc = 0x0101 ∧ t.status = .running := by decide

/-- `GTH2` at 0100, wst [00 01 01 00], rst []. -/
theorem test_gth2 :
    let t := ran [0x2A] (start (stackOf [0x00, 0x01, 0x01, 0x00]) (stackOf []) 0x0100)
    t.wst.content = [0x00] ∧ t.rst.content = [] ∧ t.pc = 0x0101 ∧ t.status = .running := by decide

/-- `GTHk` at 0100, wst [05 03], rst []. -/
theorem test_gthk :
    let t := ran [0x8A] (start (stackOf [0x05, 0x03]) (stackOf []) 0x0100)
    t.wst.content = [0x05, 0x03, 0x01] ∧ t.rst.content = [] ∧ t.pc = 0x0101 ∧ t.status = .running := by decide

/-- `LTH2` at 0100, wst [7F FF 80 00], rst []. -/
theorem test_lth2 :
    let t := ran [0x2B] (start (stackOf [0x7F, 0xFF, 0x80, 0x00]) (stackOf []) 0x0100)
    t.wst.content = [0x01] ∧ t.rst.content = [] ∧ t.pc = 0x0101 ∧ t.status = .running := by decide

/-- `LTH2k` at 0100, wst [00 01 01 00], rst []. -/
theorem test_lth2k :
    let t := ran [0xAB] (start (stackOf [0x00, 0x01, 0x01, 0x00]) (stackOf []) 0x0100)
    t.wst.content = [0x00, 0x01, 0x01, 0x00, 0x01] ∧ t.rst.content = [] ∧ t.pc = 0x0101 ∧ t.status = .running := by decide

/-- `JMP` at 0010, wst [80], rst []. -/
theorem test_jmp :
    let t := ran [0x0C] (start (stackOf [0x80]) (stackOf []) 0x0010)
    t.wst.content = [] ∧ t.rst.content = [] ∧ t.pc = 0xFF91 ∧ t.status = .running := by decide

/-- `JMPk` at 0100, wst [05], rst []. -/
theorem test_jmpk :
    let t := ran [0x8C] (start (stackOf [0x05]) (stackOf []) 0x0100)
    t.wst.content = [0x05] ∧ t.rst.content = [] ∧ t.pc = 0x0106 ∧ t.status = .running := by decide

/-- `JCN2` at 0100, wst [00 02 00], rst []. -/
theorem test_jcn2 :
    let t := ran [0x2D] (start (stackOf [0x00, 0x02, 0x00]) (stackOf []) 0x0100)
    t.wst.content = [] ∧ t.rst.content = [] ∧ t.pc = 0x0101 ∧ t.status = .running := by decide

/-- `JCN` at 0100, wst [05], rst []. -/
theorem test_jcn :
    let t := ran [0x0D] (start (stackOf [0x05]) (stackOf []) 0x0100)
    t.wst.content = [] ∧ t.rst.content = [] ∧ t.pc = 0x0101 ∧ t.status = .faulted (.stackUnderflow .wst) := by decide

/-- `JSR2` at FFFF, wst [02 00], rst []. -/
theorem test_jsr2 :
    let t := ran [0x2E] (start (stackOf [0x02, 0x00]) (stackOf []) 0xFFFF)
    t.wst.content = [] ∧ t.rst.content = [0x00, 0x00] ∧ t.pc = 0x0200 ∧ t.status = .running := by decide

/-- `JSR2` at 0100, wst [02 00], rst ptr=254. -/
theorem test_jsr2_b :
    let t := ran [0x2E] (start (stackOf [0x02, 0x00]) (zeros 254) 0x0100)
    t.wst.content = [] ∧ t.rst.ptr = 254 ∧ t.pc = 0x0101 ∧ t.status = .faulted (.stackOverflow .rst) := by decide

/-- `STH2` at 0100, wst [12 34], rst []. -/
theorem test_sth2 :
    let t := ran [0x2F] (start (stackOf [0x12, 0x34]) (stackOf []) 0x0100)
    t.wst.content = [] ∧ t.rst.content = [0x12, 0x34] ∧ t.pc = 0x0101 ∧ t.status = .running := by decide

/-- `STH` at 0100, wst [12], rst ptr=255. -/
theorem test_sth :
    let t := ran [0x0F] (start (stackOf [0x12]) (zeros 255) 0x0100)
    t.wst.content = [] ∧ t.rst.ptr = 255 ∧ t.pc = 0x0101 ∧ t.status = .faulted (.stackOverflow .rst) := by decide

/-- `LDZ2` at 0100, wst [FF], rst []. -/
theorem test_ldz2 :
    let t := ran [0x30] ({ start (stackOf [0xFF]) (stackOf []) 0x0100 with mem := [(0xFF, 0x11)] })
    t.wst.content = [0x11, 0x30] ∧ t.rst.content = [] ∧ t.pc = 0x0101 ∧ t.status = .running := by decide

/-- `LDZk` at 0100, wst [80], rst []. -/
theorem test_ldzk :
    let t := ran [0x90] ({ start (stackOf [0x80]) (stackOf []) 0x0100 with mem := [(0x80, 0xAB)] })
    t.wst.content = [0x80, 0xAB] ∧ t.rst.content = [] ∧ t.pc = 0x0101 ∧ t.status = .running := by decide

/-- `STZ2` at 0100, wst [AB CD FF], rst []. -/
theorem test_stz2 :
    let t := ran [0x31] (start (stackOf [0xAB, 0xCD, 0xFF]) (stackOf []) 0x0100)
    t.wst.content = [] ∧ t.rst.content = [] ∧ t.pc = 0x0101 ∧ t.status = .running ∧ t.memRead8 0x00FF = 0xAB ∧ t.memRead8 0x0100 = 0xCD := by decide

/-- `STZ` at 0100, wst [80], rst []. -/
theorem test_stz :
    let t := ran [0x11] (start (stackOf [0x80]) (stackOf []) 0x0100)
    t.wst.content = [] ∧ t.rst.content = [] ∧ t.pc = 0x0101 ∧ t.status = .faulted (.stackUnderflow .wst) := by decide

/-- `LDR` at 0010, wst [80], rst []. -/
theorem test_ldr :
    let t := ran [0x12] ({ start (stackOf [0x80]) (stackOf []) 0x0010 with mem := [(0xFF91, 0x42)] })
    t.wst.content = [0x42] ∧ t.rst.content = [] ∧ t.pc = 0x0011 ∧ t.status = .running := by decide

/-- `LDRk` at 0100, wst [02], rst []. -/
theorem test_ldrk :
    let t := ran [0x92] ({ start (stackOf [0x02]) (stackOf []) 0x0100 with mem := [(0x103, 0xAB)] })
    t.wst.content = [0x02, 0xAB] ∧ t.rst.content = [] ∧ t.pc = 0x0101 ∧ t.status = .running := by decide

/-- `STR2` at 0100, wst [AB CD 02], rst []. -/
theorem test_str2 :
    let t := ran [0x33] (start (stackOf [0xAB, 0xCD, 0x02]) (stackOf []) 0x0100)
    t.wst.content = [] ∧ t.rst.content = [] ∧ t.pc = 0x0101 ∧ t.status = .running ∧ t.memRead8 0x0103 = 0xAB ∧ t.memRead8 0x0104 = 0xCD := by decide

/-- `STRk` at 0100, wst [AB 02], rst []. -/
theorem test_strk :
    let t := ran [0x93] (start (stackOf [0xAB, 0x02]) (stackOf []) 0x0100)
    t.wst.content = [0xAB, 0x02] ∧ t.rst.content = [] ∧ t.pc = 0x0101 ∧ t.status = .running ∧ t.memRead8 0x0103 = 0xAB := by decide

/-- `LDA2` at 0100, wst [FF FF], rst []. -/
theorem test_lda2 :
    let t := ran [0x34] ({ start (stackOf [0xFF, 0xFF]) (stackOf []) 0x0100 with mem := [(0x0, 0x34), (0xFFFF, 0x12)] })
    t.wst.content = [0x12, 0x34] ∧ t.rst.content = [] ∧ t.pc = 0x0101 ∧ t.status = .running := by decide

/-- `LDA` at 0100, wst [02], rst []. -/
theorem test_lda :
    let t := ran [0x14] (start (stackOf [0x02]) (stackOf []) 0x0100)
    t.wst.content = [0x02] ∧ t.rst.content = [] ∧ t.pc = 0x0101 ∧ t.status = .faulted (.stackUnderflow .wst) := by decide

/-- `STA2` at 0100, wst [AB CD FF FF], rst []. -/
theorem test_sta2 :
    let t := ran [0x35] (start (stackOf [0xAB, 0xCD, 0xFF, 0xFF]) (stackOf []) 0x0100)
    t.wst.content = [] ∧ t.rst.content = [] ∧ t.pc = 0x0101 ∧ t.status = .running ∧ t.memRead8 0xFFFF = 0xAB ∧ t.memRead8 0x0000 = 0xCD := by decide

/-- `STAk` at 0100, wst [AB 02 00], rst []. -/
theorem test_stak :
    let t := ran [0x95] (start (stackOf [0xAB, 0x02, 0x00]) (stackOf []) 0x0100)
    t.wst.content = [0xAB, 0x02, 0x00] ∧ t.rst.content = [] ∧ t.pc = 0x0101 ∧ t.status = .running ∧ t.memRead8 0x0200 = 0xAB := by decide

/-- `DEI2` at 0100, wst [FF], rst []. -/
theorem test_dei2 :
    let t := ran [0x36] ({ start (stackOf [0xFF]) (stackOf []) 0x0100 with dev := [(0x0, 0xBB), (0xFF, 0xAA)] })
    t.wst.content = [0xAA, 0xBB] ∧ t.rst.content = [] ∧ t.pc = 0x0101 ∧ t.status = .running := by decide

/-- `DEIk` at 0100, wst [12], rst []. -/
theorem test_deik :
    let t := ran [0x96] ({ start (stackOf [0x12]) (stackOf []) 0x0100 with dev := [(0x12, 0x68)] })
    t.wst.content = [0x12, 0x68] ∧ t.rst.content = [] ∧ t.pc = 0x0101 ∧ t.status = .running := by decide

/-- `DEO2` at 0100, wst [41 42 17], rst []. -/
theorem test_deo2 :
    let t := ran [0x37] (start (stackOf [0x41, 0x42, 0x17]) (stackOf []) 0x0100)
    t.wst.content = [] ∧ t.rst.content = [] ∧ t.pc = 0x0101 ∧ t.status = .running ∧ t.devByte 0x17 = 0x41 ∧ t.devByte 0x18 = 0x42 ∧ t.out = [0x42] := by decide

/-- `DEO2` at 0100, wst [42 18], rst []. -/
theorem test_deo2_b :
    let t := ran [0x37] (start (stackOf [0x42, 0x18]) (stackOf []) 0x0100)
    t.wst.content = [0x42] ∧ t.rst.content = [] ∧ t.pc = 0x0101 ∧ t.status = .faulted (.stackUnderflow .wst) := by decide

/-- `ADD2` at 0100, wst [12 34 43 21], rst []. -/
theorem test_add2 :
    let t := ran [0x38] (start (stackOf [0x12, 0x34, 0x43, 0x21]) (stackOf []) 0x0100)
    t.wst.content = [0x55, 0x55] ∧ t.rst.content = [] ∧ t.pc = 0x0101 ∧ t.status = .running := by decide

/-- `ADDk` at 0100, wst [03 04], rst []. -/
theorem test_addk :
    let t := ran [0x98] (start (stackOf [0x03, 0x04]) (stackOf []) 0x0100)
    t.wst.content = [0x03, 0x04, 0x07] ∧ t.rst.content = [] ∧ t.pc = 0x0101 ∧ t.status = .running := by decide

/-- `SUB2` at 0100, wst [12 34 02 34], rst []. -/
theorem test_sub2 :
    let t := ran [0x39] (start (stackOf [0x12, 0x34, 0x02, 0x34]) (stackOf []) 0x0100)
    t.wst.content = [0x10, 0x00] ∧ t.rst.content = [] ∧ t.pc = 0x0101 ∧ t.status = .running := by decide

/-- `SUBk` at 0100, wst [05 03], rst []. -/
theorem test_subk :
    let t := ran [0x99] (start (stackOf [0x05, 0x03]) (stackOf []) 0x0100)
    t.wst.content = [0x05, 0x03, 0x02] ∧ t.rst.content = [] ∧ t.pc = 0x0101 ∧ t.status = .running := by decide

/-- `MUL2` at 0100, wst [FF FF FF FF], rst []. -/
theorem test_mul2 :
    let t := ran [0x3A] (start (stackOf [0xFF, 0xFF, 0xFF, 0xFF]) (stackOf []) 0x0100)
    t.wst.content = [0x00, 0x01] ∧ t.rst.content = [] ∧ t.pc = 0x0101 ∧ t.status = .running := by decide

/-- `MULk` at 0100, wst [03 04], rst []. -/
theorem test_mulk :
    let t := ran [0x9A] (start (stackOf [0x03, 0x04]) (stackOf []) 0x0100)
    t.wst.content = [0x03, 0x04, 0x0C] ∧ t.rst.content = [] ∧ t.pc = 0x0101 ∧ t.status = .running := by decide

/-- `DIV2` at 0100, wst [FF FF 00 02], rst []. -/
theorem test_div2 :
    let t := ran [0x3B] (start (stackOf [0xFF, 0xFF, 0x00, 0x02]) (stackOf []) 0x0100)
    t.wst.content = [0x7F, 0xFF] ∧ t.rst.content = [] ∧ t.pc = 0x0101 ∧ t.status = .running := by decide

/-- `DIV` at 0100, wst [07 00], rst []. -/
theorem test_div :
    let t := ran [0x1B] (start (stackOf [0x07, 0x00]) (stackOf []) 0x0100)
    t.wst.content = [] ∧ t.rst.content = [] ∧ t.pc = 0x0101 ∧ t.status = .faulted .divisionByZero := by decide

/-- `AND2` at 0100, wst [FF 00 12 34], rst []. -/
theorem test_and2 :
    let t := ran [0x3C] (start (stackOf [0xFF, 0x00, 0x12, 0x34]) (stackOf []) 0x0100)
    t.wst.content = [0x12, 0x00] ∧ t.rst.content = [] ∧ t.pc = 0x0101 ∧ t.status = .running := by decide

/-- `ANDk` at 0100, wst [F0 3C], rst []. -/
theorem test_andk :
    let t := ran [0x9C] (start (stackOf [0xF0, 0x3C]) (stackOf []) 0x0100)
    t.wst.content = [0xF0, 0x3C, 0x30] ∧ t.rst.content = [] ∧ t.pc = 0x0101 ∧ t.status = .running := by decide

/-- `ORA2` at 0100, wst [F0 00 12 34], rst []. -/
theorem test_ora2 :
    let t := ran [0x3D] (start (stackOf [0xF0, 0x00, 0x12, 0x34]) (stackOf []) 0x0100)
    t.wst.content = [0xF2, 0x34] ∧ t.rst.content = [] ∧ t.pc = 0x0101 ∧ t.status = .running := by decide

/-- `ORAk` at 0100, wst [F0 3C], rst []. -/
theorem test_orak :
    let t := ran [0x9D] (start (stackOf [0xF0, 0x3C]) (stackOf []) 0x0100)
    t.wst.content = [0xF0, 0x3C, 0xFC] ∧ t.rst.content = [] ∧ t.pc = 0x0101 ∧ t.status = .running := by decide

/-- `EOR2` at 0100, wst [FF FF 12 34], rst []. -/
theorem test_eor2 :
    let t := ran [0x3E] (start (stackOf [0xFF, 0xFF, 0x12, 0x34]) (stackOf []) 0x0100)
    t.wst.content = [0xED, 0xCB] ∧ t.rst.content = [] ∧ t.pc = 0x0101 ∧ t.status = .running := by decide

/-- `EORk` at 0100, wst [F0 3C], rst []. -/
theorem test_eork :
    let t := ran [0x9E] (start (stackOf [0xF0, 0x3C]) (stackOf []) 0x0100)
    t.wst.content = [0xF0, 0x3C, 0xCC] ∧ t.rst.content = [] ∧ t.pc = 0x0101 ∧ t.status = .running := by decide

/-- `SFT2` at 0100, wst [12 34 88], rst []. -/
theorem test_sft2 :
    let t := ran [0x3F] (start (stackOf [0x12, 0x34, 0x88]) (stackOf []) 0x0100)
    t.wst.content = [0x12, 0x00] ∧ t.rst.content = [] ∧ t.pc = 0x0101 ∧ t.status = .running := by decide

/-- `SFT2` at 0100, wst [34 10], rst []. -/
theorem test_sft2_b :
    let t := ran [0x3F] (start (stackOf [0x34, 0x10]) (stackOf []) 0x0100)
    t.wst.content = [0x34] ∧ t.rst.content = [] ∧ t.pc = 0x0101 ∧ t.status = .faulted (.stackUnderflow .wst) := by decide

/-! ### Witnesses: the hypotheses of each obligation, met together -/

/-- Where `TurnsOne` applies, for a result of `len` bytes. -/
abbrev OneApplies (m : Mode) (s : State) (base : List Byte) (a : Word) (len : Nat) : Prop :=
  s.Ready ∧ m.Fits a ∧ s.content m.src = base ++ m.bytes a ∧ (m.left base (m.bytes a)).length + len ≤ 255

/-- Where `TurnsTwo` applies, for a result of `len` bytes. -/
abbrev TwoApplies (m : Mode) (s : State) (base : List Byte) (a b : Word) (len : Nat) : Prop :=
  s.Ready ∧ m.Fits a ∧ m.Fits b ∧ s.content m.src = base ++ (m.bytes a ++ m.bytes b) ∧
    (m.left base (m.bytes a ++ m.bytes b)).length + len ≤ 255

/-- Where `TurnsThree` applies, for a result of `len` bytes. -/
abbrev ThreeApplies (m : Mode) (s : State) (base : List Byte) (a b c : Word) (len : Nat) : Prop :=
  s.Ready ∧ m.Fits a ∧ m.Fits b ∧ m.Fits c ∧ s.content m.src = base ++ (m.bytes a ++ m.bytes b ++ m.bytes c) ∧
    (m.left base (m.bytes a ++ m.bytes b ++ m.bytes c)).length + len ≤ 255

theorem witness_decodeOfEncode : (Instr.lit2kr 0xFFFF).wf = true := by decide

theorem witness_encodeOfDecode : decode [0x20, 0x12, 0x34, 0x05] = .ok (.lit2 0x1234, [0x05]) := rfl

theorem witness_lengthFromOpcodeByte : decode [0x80] = .error .literalCutShort ∧ decode [] = .error .noOpcode ∧
    decode [0x20, 0x12] = .error .literalCutShort ∧ decode [0x80, 0x00] = .ok (.litk 0x00, []) := ⟨rfl, rfl, rfl, rfl⟩

theorem witness_stackUnit_push8 : (zeros 254).keep = false ∧ ((zeros 254).push8 0x12).isSome = true := by decide
theorem witness_stackUnit_push16 : (zeros 253).keep = false ∧ ((zeros 253).push16 0x1234).isSome = true := by decide
theorem witness_stackUnit_keep : (stackOf [0x11, 0x22, 0x33]).keep = false ∧
    ((stackOf [0x11, 0x22, 0x33]).enterKeep.popMany [false, true]).map Prod.fst = some [0x33, 0x1122] := by decide
theorem witness_stackUnit_full : (zeros 255).ptr = 255 ∧ (zeros 0).ptr = 0 ∧ (zeros 0).keep = false := by decide

theorem witness_push_roomAndFull : ((zeros 254).push8 0x12).isSome = true ∧ ((zeros 255).push8 0x12) = none ∧
    ((zeros 253).push16 0x1234).isSome = true ∧ ((zeros 254).push16 0x1234) = none := by decide

theorem witness_pop_last : (stackOf [0x12]).pop8.map Prod.fst = some 0x12 ∧
    (stackOf [0x12, 0x34]).pop16.map Prod.fst = some 0x1234 ∧
    (stackOf [0x12, 0x34]).enterKeep.pop16.map Prod.fst = some 0x1234 ∧ (stackOf [0x12]).enterKeep.pop16 = none := by
  decide

/-- A keep-mode instruction that completes, one that faults, and the stack it does not touch. -/
theorem witness_keepModeEnds : StackId.rst ≠ StackId.wst ∧ Instr.dupk ≠ .brk ∧ Instr.rotk ≠ .brk ∧
    statusOf (exec .dupk (start (stackOf [0x12]) (zeros 0) 0x0100)) = some .running ∧
    statusOf (exec .rotk (start (stackOf [0x12]) (zeros 0) 0x0100)) = some (.faulted (.stackUnderflow .wst)) := by
  decide

theorem witness_device_bindings : State.reset.binding = .reference ∧ otherHost.binding = .other := by decide

theorem witness_storedInstruction : (start (zeros 0) (zeros 0) 0xFFFF).status = .running ∧
    (start (zeros 0) (zeros 0) 0xFFFF).pc ≠ 0 ∧ (start (zeros 0) (zeros 0) 0xFFFF).resetDue = false := by decide

theorem witness_halt_atZero : (start (zeros 0) (zeros 0) 0x0000).status = .running ∧
    (start (zeros 0) (zeros 0) 0x0000).pc = 0 ∧ (start (zeros 0) (zeros 0) 0x0000).resetDue = false := by decide
theorem witness_halt_atBreakByte : (start (zeros 0) (zeros 0) 0x0100).status = .running ∧
    (start (zeros 0) (zeros 0) 0x0100).memRead8 0x0100 = 0 ∧
    ({ start (zeros 0) (zeros 0) 0x0100 with pending := [.reset 1] } : State).resetDue = false := by decide
theorem witness_halt_reached : step (start (zeros 0) (zeros 0) 0x0100) =
    .next { start (zeros 0) (zeros 0) 0x0100 with status := .halted } ∧
    (start (zeros 0) (zeros 0) 0x0100).status = .running := ⟨rfl, rfl⟩

theorem witness_stepRuns :
    let s := { start (zeros 0) (zeros 0) 0xFFFE with mem := [(0, 0x34), (0xFFFE, 0x20), (0xFFFF, 0x12)] }
    s.status = .running ∧ s.pc ≠ 0 ∧ s.resetDue = false ∧
      ({ s with pending := [.reset 1] } : State).resetDue = false ∧
      decode [s.memRead8 s.pc, s.memRead8 (s.pc + 1), s.memRead8 (s.pc + 2)] = .ok (.lit2 0x1234, []) :=
  ⟨rfl, by decide, rfl, rfl, rfl⟩

/-- The premises of the table of faults, each of its four rows reached. -/
theorem witness_faultTable :
    (start (zeros 255) (zeros 255) 0x0100).status = .running ∧ (start (zeros 255) (zeros 255) 0x0100).Inv ∧
    (start (stackOf [0x01]) (zeros 255) 0x0100).Inv ∧
    statusOf (exec .add (start (stackOf [0x01]) (zeros 255) 0x0100)) = some (.faulted (.stackUnderflow .wst)) ∧
    statusOf (exec .div (start (zeros 255) (zeros 255) 0x0100)) = some (.faulted .divisionByZero) ∧
    statusOf (exec .sth (start (zeros 255) (zeros 255) 0x0100)) = some (.faulted (.stackOverflow .rst)) ∧
    statusOf (exec .add (start (zeros 255) (zeros 255) 0x0100)) = some .running := by decide

theorem witness_faultKeeps : (start (zeros 255) (zeros 255) 0x0100).status = .running ∧
    statusOf (exec .dei2 { start (zeros 255) (zeros 255) 0x0100 with binding := .other }) =
      some (.faulted (.stackOverflow .wst)) := ⟨rfl, rfl⟩

theorem witness_underflow : (start (stackOf [0x12]) (zeros 0) 0x0100).Ready ∧
    statusOf (exec .nip (start (stackOf [0x12]) (zeros 0) 0x0100)) = some (.faulted (.stackUnderflow .wst)) ∧
    statusOf (exec .nipk (start (stackOf [0x12]) (zeros 0) 0x0100)) = some (.faulted (.stackUnderflow .wst)) := by decide

theorem witness_faulted : ({ State.reset with status := .faulted .divisionByZero } : State).status =
      .faulted .divisionByZero ∧
    (∀ n rest, ({ State.reset with status := .faulted .divisionByZero } : State).pending ≠ .reset n :: rest) ∧
    ({ State.reset with status := .faulted .divisionByZero, pending := [.reset 3] } : State).pending =
      .reset 3 :: [] :=
  ⟨rfl, (fun _ _ h => nomatch h), rfl⟩

/-- A Reset that is due in a run, one that waits, and one of a halted core, which is due at once. -/
theorem witness_reset :
    let s : State := { start (zeros 1) (zeros 0) 0x0100 with mem := [(0x0100, 0x80)] }
    ({ s with pending := [.reset 0] } : State).resetDue = true ∧
    ({ s with pending := [.reset 1] } : State).resetDue = false ∧
    ({ s with pending := [.reset 1], status := .halted } : State).resetDue = true ∧
    ({ s with pending := [.reset 1] } : State).letPass.pending = .reset 0 :: [] := by decide

/-- A core that jumps to itself for ever (JMP by -3 over LIT) is reset after the two steps the host lets pass
(70_reset_and_hazards.md R210). -/
theorem test_reset_stops_a_loop :
    core.run 3 { start (zeros 0) (zeros 0) 0x0100 with
        mem := [(0x0100, 0x80), (0x0101, 0xFD), (0x0102, 0x0C)], pending := [.reset 2] } =
      .next State.reset := rfl

theorem witness_reset_inv : State.reset.Inv := by decide

/-- A step of the core and steps of the host, from states that meet the invariant. -/
theorem witness_everyStep : (start (zeros 255) (zeros 255) 0x0100).Inv ∧
    statusOf (step ({ start (stackOf [0x05]) (zeros 0) 0x0100 with mem := [(0x0100, 0x81)] })) = some .running ∧
    statusOf (step { State.reset with pending := [.loadImage [0x80, 0x05]] }) = some .halted ∧
    statusOf (step { State.reset with pending := [.run 0x0100] }) = some .running := by decide

theorem witness_consoleGrows :
    (start (zeros 0) (zeros 0) 0x0100).status = .running ∧
    statusOf (step { start (stackOf [0x41, 0x18]) (zeros 0) 0x0100 with mem := [(0x0100, 0x17)] }) = some .running ∧
    (start (zeros 0) (zeros 0) 0x0100).resetDue = false ∧
    ({ State.reset with pending := [.run 0x0100] } : State).resetDue = false := by decide

theorem witness_whichInstructions : (start (stackOf [0xAB, 0x80]) (zeros 0) 0x0100).Ready ∧
    statusOf (exec .stz (start (stackOf [0xAB, 0x80]) (zeros 0) 0x0100)) = some .running ∧
    statusOf (exec .brk (start (stackOf [0xAB, 0x80]) (zeros 0) 0x0100)) = some .halted := by decide

theorem witness_keepMode : (start (stackOf [0x12]) (zeros 0) 0x0100).Ready ∧ Instr.dupk.mode.keep = true ∧
    statusOf (exec .dupk (start (stackOf [0x12]) (zeros 0) 0x0100)) = some .running := by decide

/-- Each clause of the program counter's rule: a running step at address 0, BRK, a fault, LIT, a plain
instruction, a jump by -128 that wraps, a condition byte that is not 0. -/
theorem witness_programCounter :
    let s := start (stackOf [0x01, 0x80]) (zeros 0) 0x0010
    s.Ready ∧ (start (zeros 0) (zeros 0) 0x0000).status = .running ∧
    statusOf (exec .brk s) = some .halted ∧ statusOf (exec .rot s) = some (.faulted (.stackUnderflow .wst)) ∧
    statusOf (exec (.lit2 0x1234) s) = some .running ∧ statusOf (exec .swp s) = some .running ∧
    statusOf (exec .jmp s) = some .running ∧ Instr.jmp.mode.Fits 0x0080 ∧
    s.content Instr.jmp.mode.src = [0x01] ++ Instr.jmp.mode.bytes 0x0080 ∧
    statusOf (exec .jcn s) = some .running ∧
    s.content Instr.jcn.mode.src = [] ++ (0x01 :: Instr.jcn.mode.bytes 0x0080) := by decide

/-- Two states that differ above a pointer and in a keep cursor, and are alike. -/
theorem witness_alike :
    let s := start (zeros 1) (zeros 0) 0x0100
    let t := { s with wst := { s.wst with dat := [(1, 0xFF)], kc := 7 } }
    s.wst.keep = false ∧ s.rst.keep = false ∧ s.Alike t ∧ s ≠ t := by decide

/-- Each move of the status. -/
theorem witness_statusMoves :
    statusOf (step (start (zeros 0) (zeros 0) 0x0000)) = some .halted ∧
    statusOf (step { State.reset with pending := [.run 0x0100] }) = some .running ∧
    statusOf (step { State.reset with dev := [(0x10, 0x01)], pending := [.injectEvent 1 [(0x12, 0x68)]] }) =
      some .running ∧
    statusOf (step State.reset) = some .halted ∧
    statusOf (step { State.reset with status := .faulted .divisionByZero, pending := [.reset 1] }) = some .halted ∧
    statusOf (step { start (zeros 1) (zeros 0) 0x0100 with mem := [(0x0100, 0x01)], pending := [.reset 0] }) =
      some .halted := by decide

theorem witness_loadImage : State.reset.status = .halted ∧ (List.replicate 65280 (0 : Byte)).length ≤ 65280 ∧
    65280 < (List.replicate 65281 (0 : Byte)).length ∧ (start (zeros 0) (zeros 0) 0x0100).status ≠ .halted :=
  ⟨rfl, by rw [List.length_replicate], by rw [List.length_replicate]; decide, by decide⟩

theorem witness_run : State.reset.status = .halted ∧ ((0 : Word) = 0) ∧ State.reset.memRead8 0xFFFF = 0 ∧
    ({ State.reset with pc := 0xFFFF, status := .running } : State).resetDue = false := by decide

/-- An event with a handler and one without. -/
theorem witness_event : State.reset.status = .halted ∧
    ({ State.reset with dev := [(0x10, 0x01)] } : State).devVector 0x10 = 0x0100 ∧
    State.reset.devVector 0x10 = 0 := by decide

theorem witness_otherTransactions : (start (zeros 0) (zeros 0) 0x0100).status ≠ .halted ∧
    (∀ n, HostCommand.run 0x0100 ≠ HostCommand.reset n) ∧
    ({ State.reset with status := .faulted .divisionByZero } : State).status ≠ .halted :=
  ⟨by decide, (fun _ h => nomatch h), by decide⟩

/-- A boot out of FAULTED, and one in the middle of a run. -/
theorem witness_boot :
    let s : State :=
      { State.reset with status := .faulted .divisionByZero, pending := bootCommands [0x80, 0x05] ++ [.reset 7] }
    s.pending = bootCommands [0x80, 0x05] ++ [HostCommand.reset 7] ∧
    ({ s with status := .running } : State).pending = bootCommands [0x80, 0x05] ++ [HostCommand.reset 7] ∧
    [(0x80 : Byte), 0x05].length ≤ 65280 := by decide

set_option maxRecDepth 8192 in
/-- LIT2kr with exactly enough room, and LITk without. -/
theorem witness_lit :
    let m2 : Mode := ⟨true, true, true⟩
    let m1 : Mode := ⟨false, false, true⟩
    (m2.short || m2.ret || m2.keep) = true ∧ (m1.short || m1.ret || m1.keep) = true ∧
    (start (zeros 255) (zeros 253) 0x0100).Ready ∧
    ((start (zeros 255) (zeros 253) 0x0100).content m2.src).length + m2.width ≤ 255 ∧
    255 < ((start (zeros 255) (zeros 253) 0x0100).content m1.src).length + m1.width := by decide

set_option maxRecDepth 8192 in
/-- The opcode byte of a LIT2 in the last byte of memory, and of a LITr at 0x0100 with the stack full. -/
theorem witness_litFromMemory :
    let s := { start (zeros 0) (zeros 0) 0xFFFF with mem := [(1, 0x34), (0xFFFF, 0x20)] }
    let t := { start (zeros 0) (zeros 255) 0x0100 with mem := [(0x0100, 0x40)] }
    s.Ready ∧ s.pc ≠ 0 ∧ s.memRead8 s.pc = encodeFields .lit ⟨true, false, false⟩ ∧
    (s.content .wst).length + 2 ≤ 255 ∧ s.resetDue = false ∧ t.resetDue = false ∧
    t.Ready ∧ t.pc ≠ 0 ∧ t.memRead8 t.pc = encodeFields .lit ⟨false, true, false⟩ ∧
    255 < (t.content .rst).length + 1 := by decide

set_option maxRecDepth 8192 in
/-- INC2, POP and DUPk, the last with room for exactly its two bytes. -/
theorem witness_shuffling_one :
    OneApplies ⟨true, false, false⟩ (start (stackOf [0x00, 0xFF]) (zeros 0) 0x0100) [] 0x00FF 2 ∧
    OneApplies ⟨false, true, false⟩ (start (zeros 0) (stackOf [0x12]) 0x0100) [] 0x0012 0 ∧
    OneApplies ⟨false, false, true⟩ (start (zeros 253) (zeros 0) 0x0100) (List.replicate 252 0) 0 2 := by decide

set_option maxRecDepth 8192 in
/-- POP2 of exactly one word, POP2k with one byte where a word is asked for. -/
theorem witness_pop :
    let w : Mode := ⟨true, true, false⟩
    let k : Mode := ⟨true, false, true⟩
    let s := start (stackOf [0x12]) (stackOf [0x12, 0x34]) 0x0100
    s.Ready ∧ w.width ≤ (s.content w.src).length ∧ (s.content k.src).length < k.width := by decide

set_option maxRecDepth 8192 in
/-- NIP, SWP, OVR: a word form on the return stack, and OVRk with room for exactly its three bytes. -/
theorem witness_shuffling_two :
    TwoApplies ⟨true, true, false⟩ (start (zeros 0) (stackOf [0x11, 0x22, 0x33, 0x44]) 0x0100) [] 0x1122 0x3344 4 ∧
    TwoApplies ⟨false, false, true⟩ (start (zeros 252) (zeros 0) 0x0100) (List.replicate 250 0) 0 0 3 := by decide

set_option maxRecDepth 8192 in
/-- ROT, and ROT2k with room for exactly its six bytes. -/
theorem witness_shuffling_three :
    ThreeApplies ⟨false, false, false⟩ (start (stackOf [0x01, 0x02, 0x03]) (zeros 0) 0x0100) [] 1 2 3 3 ∧
    ThreeApplies ⟨true, false, true⟩ (start (zeros 249) (zeros 0) 0x0100) (List.replicate 243 0) 0 0 0 6 := by decide

set_option maxRecDepth 8192 in
/-- The comparisons: words on the return stack, and EQUk with room for exactly its byte. -/
theorem witness_comparisons :
    TwoApplies ⟨true, true, false⟩ (start (zeros 0) (stackOf [0x80, 0x00, 0x7F, 0xFF]) 0x0100) [] 0x8000 0x7FFF 1 ∧
    TwoApplies ⟨false, false, true⟩ (start (zeros 254) (zeros 0) 0x0100) (List.replicate 252 0) 0 0 1 := by decide

set_option maxRecDepth 8192 in
/-- ADD, SUB, MUL: operands whose result does not fit, and ADD2k with room for exactly its word. -/
theorem witness_arithmetic :
    TwoApplies ⟨false, false, false⟩ (start (stackOf [0xFF, 0x02]) (zeros 0) 0x0100) [] 0x00FF 0x0002 1 ∧
    TwoApplies ⟨true, false, true⟩ (start (zeros 253) (zeros 0) 0x0100) (List.replicate 249 0) 0 0 2 := by decide

set_option maxRecDepth 8192 in
theorem witness_div :
    TwoApplies ⟨true, false, false⟩ (start (stackOf [0x12, 0x34, 0x00, 0x10]) (zeros 0) 0x0100) [] 0x1234 0x0010 2 ∧
    (0x0010 : Word) ≠ 0 := by decide

/-- DIV by zero: a byte form, a word form, and a run that raises it. -/
theorem witness_divByZero :
    let s := start (stackOf [0x07, 0x00]) (stackOf [0x12, 0x34, 0x00, 0x00]) 0x0100
    let b : Mode := ⟨false, false, false⟩
    let w : Mode := ⟨true, true, true⟩
    s.Ready ∧ b.Fits 0x0007 ∧ s.content b.src = [] ++ (b.bytes 0x0007 ++ b.bytes 0) ∧
    w.Fits 0x1234 ∧ s.content w.src = [] ++ (w.bytes 0x1234 ++ w.bytes 0) ∧
    statusOf (exec .div s) = some (.faulted .divisionByZero) := by decide

set_option maxRecDepth 8192 in
/-- AND, ORA, EOR: bytes, and words with the keep flag. -/
theorem witness_bitwise :
    TwoApplies ⟨false, false, false⟩ (start (stackOf [0xF0, 0x3C]) (zeros 0) 0x0100) [] 0x00F0 0x003C 1 ∧
    TwoApplies ⟨true, true, true⟩ (start (zeros 0) (stackOf [0xFF, 0xFF, 0x12, 0x34]) 0x0100) [] 0xFFFF 0x1234 2 := by
  decide

set_option maxRecDepth 8192 in
/-- SFT2 with both nibbles in use, and SFTk with room for exactly its byte. -/
theorem witness_sft :
    let s := start (stackOf [0xFF, 0xFF, 0x4C]) (zeros 254) 0x0100
    let w : Mode := ⟨true, false, false⟩
    let k : Mode := ⟨false, true, true⟩
    s.Ready ∧ w.Fits 0xFFFF ∧ s.content w.src = [] ++ (w.bytes 0xFFFF ++ [0x4C]) ∧
    (w.left [] (w.bytes 0xFFFF ++ [0x4C])).length + w.width ≤ 255 ∧
    k.Fits 0 ∧ s.content k.src = List.replicate 252 0 ++ (k.bytes 0 ++ [0x00]) ∧
    (k.left (List.replicate 252 0) (k.bytes 0 ++ [0x00])).length + k.width ≤ 255 := by decide

/-- JMP by a signed byte and JMP2r by a word. -/
theorem witness_jmp :
    let s := start (stackOf [0x80]) (stackOf [0x01, 0x04]) 0x0010
    let b : Mode := ⟨false, false, false⟩
    let w : Mode := ⟨true, true, false⟩
    s.Ready ∧ b.Fits 0x0080 ∧ s.content b.src = [] ++ b.bytes 0x0080 ∧
    w.Fits 0x0104 ∧ s.content w.src = [] ++ w.bytes 0x0104 := by decide

/-- JCN with a condition byte 0x00 and with one that is not. -/
theorem witness_jcn :
    let s := start (stackOf [0x00, 0x05]) (stackOf [0xFF, 0x02, 0x00]) 0x0100
    let b : Mode := ⟨false, false, false⟩
    let w : Mode := ⟨true, true, true⟩
    s.Ready ∧ b.Fits 0x0005 ∧ s.content b.src = [] ++ (0x00 :: b.bytes 0x0005) ∧
    w.Fits 0x0200 ∧ s.content w.src = [] ++ (0xFF :: w.bytes 0x0200) := by decide

set_option maxRecDepth 8192 in
/-- JSR2 with room for exactly the return address, from the last byte of memory. -/
theorem witness_jsr :
    let s := start (stackOf [0x02, 0x00]) (zeros 253) 0xFFFF
    let w : Mode := ⟨true, false, false⟩
    s.Ready ∧ w.Fits 0x0200 ∧ s.content w.src = [] ++ w.bytes 0x0200 ∧ (s.content w.dst).length ≤ 253 := by decide

set_option maxRecDepth 8192 in
theorem witness_callAndReturn :
    let s := start (stackOf [0x07, 0x02, 0x00]) (zeros 253) 0x0100
    s.Ready ∧ s.content .wst = [0x07] ++ [hiByte 0x0200, loByte 0x0200] ∧ (s.content .rst).length ≤ 253 := by decide

set_option maxRecDepth 8192 in
/-- STH2 with room for exactly the word, and back again with STH2r. -/
theorem witness_sth_room :
    let s := start (stackOf [0x12, 0x34]) (zeros 253) 0x0100
    let w : Mode := ⟨true, false, false⟩
    s.Ready ∧ w.Fits 0x1234 ∧ s.content w.src = [] ++ w.bytes 0x1234 ∧ w.keep = false ∧
      (s.content w.src).length ≤ 255 ∧ (s.content w.dst).length + w.width ≤ 255 := by decide

set_option maxRecDepth 8192 in
/-- STH2k with one byte of room, and STH2 with one byte to take. -/
theorem witness_sth_faults :
    let s := start (stackOf [0x12, 0x34]) (zeros 254) 0x0100
    let k : Mode := ⟨true, false, true⟩
    let w : Mode := ⟨true, false, false⟩
    s.Ready ∧ k.Fits 0x1234 ∧ s.content k.src = [] ++ k.bytes 0x1234 ∧
      255 < (s.content k.dst).length + k.width ∧
      (start (stackOf [0x12]) (zeros 0) 0x0100).Ready ∧
      ((start (stackOf [0x12]) (zeros 0) 0x0100).content w.src).length < w.width := by decide

set_option maxRecDepth 8192 in
/-- JSR with one byte of room for the return address. -/
theorem witness_jsrOverflow :
    let s := start (stackOf [0x12]) (zeros 254) 0x0100
    let b : Mode := ⟨false, false, false⟩
    s.Ready ∧ b.Fits 0x0012 ∧ s.content b.src = [] ++ b.bytes 0x0012 ∧ 253 < (s.content b.dst).length := by decide

set_option maxRecDepth 8192 in
/-- DUP on a full stack, and DUPk with room for one of its two bytes. -/
theorem witness_dupOverflow :
    let b : Mode := ⟨false, false, false⟩
    let k : Mode := ⟨false, true, true⟩
    let s := start (zeros 255) (zeros 254) 0x0100
    s.Ready ∧ b.Fits 0 ∧ s.content b.src = List.replicate 254 0 ++ b.bytes 0 ∧ (s.content b.src).length ≤ 255 ∧
    255 < (b.left (List.replicate 254 0) (b.bytes 0)).length + 2 * b.width ∧
    k.Fits 0 ∧ s.content k.src = List.replicate 253 0 ++ k.bytes 0 ∧ (s.content k.src).length ≤ 255 ∧
    255 < (k.left (List.replicate 253 0) (k.bytes 0)).length + 2 * k.width := by decide

/-- LDZ at 0xFF, LDR by -128, LDA at 0xFFFF, each with room. -/
theorem witness_loads :
    let s := start (stackOf [0xFF]) (stackOf [0x12, 0xFF, 0xFF]) 0x0010
    let z : Mode := ⟨true, false, false⟩
    let w : Mode := ⟨true, true, true⟩
    s.Ready ∧ s.content z.src = [] ++ [0xFF] ∧ (z.left [] [0xFF]).length + z.width ≤ 255 ∧
    s.content w.src = [0x12] ++ [hiByte 0xFFFF, loByte 0xFFFF] ∧
    (w.left [0x12] [hiByte 0xFFFF, loByte 0xFFFF]).length + w.width ≤ 255 := by decide

/-- STZ2 or STR2 at the offset 0x80, STA2k at 0xFFFF. -/
theorem witness_stores :
    let s := start (stackOf [0xAB, 0xCD, 0x80]) (stackOf [0xAB, 0xCD, 0xFF, 0xFF]) 0x0010
    let z : Mode := ⟨true, false, false⟩
    let w : Mode := ⟨true, true, true⟩
    s.Ready ∧ z.Fits 0xABCD ∧ s.content z.src = [] ++ (z.bytes 0xABCD ++ [0x80]) ∧
    w.Fits 0xABCD ∧ s.content w.src = [] ++ (w.bytes 0xABCD ++ [hiByte 0xFFFF, loByte 0xFFFF]) := by decide

/-- DEI2 at the last device address, with either host. -/
theorem witness_dei :
    let s := start (stackOf [0xFF]) (zeros 0) 0x0100
    let m : Mode := ⟨true, false, false⟩
    s.Ready ∧ s.binding = .reference ∧ { s with binding := .other }.Ready ∧
    { s with binding := .other }.binding = .other ∧ s.content m.src = [] ++ [0xFF] ∧
    (m.left [] [0xFF]).length + m.width ≤ 255 := by decide

/-- DEO2 at 0x17 and DEOkr at 0x18, with either host. -/
theorem witness_deo :
    let s := start (stackOf [0x41, 0x42, 0x17]) (stackOf [0x41, 0x18]) 0x0100
    let w : Mode := ⟨true, false, false⟩
    let k : Mode := ⟨false, true, true⟩
    s.Ready ∧ s.binding = .reference ∧ { s with binding := .other }.Ready ∧
    { s with binding := .other }.binding = .other ∧ w.Fits 0x4142 ∧
    s.content w.src = [] ++ (w.bytes 0x4142 ++ [0x17]) ∧ k.Fits 0x0041 ∧
    s.content k.src = [] ++ (k.bytes 0x0041 ++ [0x18]) := by decide

/-! ### The host's two questions -/

theorem test_tableWords : decodeTableWord 8 0x01 = some .inc ∧ decodeTableWord 24 0x341220 = some (.lit2 0x1234) ∧
    decodeTableWord 8 0x80 = some (.litk 0x00) := by decide

theorem test_withFetchWord_runs :
    step (State.reset.withFetchWord 16 0x0580) =
      .next { State.reset.withFetchWord 16 0x0580 with wst := stackOf [0x05], pc := 0x0102 } := rfl

end Sys2Proof.Tests
end

section
/-! PROOFS. The stack unit said once: exactly when a push or a pop fails, and what the stack after it is
(spec/10_state.md R16 to R19). -/

namespace Sys2Proof.Machine

/-- The index a pop reads below: the keep cursor in keep mode, else the pointer (10_state.md R18). -/
def Stack.position (S : Stack) : Nat := if S.keep then S.kc else S.ptr

theorem Stack.pop8_eq (S : Stack) : S.pop8 =
    if S.position < 1 then none else some (Memory.read S.dat (S.position - 1), S.drop 1) := by
  unfold Stack.pop8 Stack.position Stack.drop; cases S.keep <;> simp

theorem Stack.pop16_eq (S : Stack) : S.pop16 =
    if S.position < 2 then none
    else some (wordOf (Memory.read S.dat (S.position - 2)) (Memory.read S.dat (S.position - 1)), S.drop 2) := by
  unfold Stack.pop16 Stack.position Stack.drop; cases S.keep <;> simp

theorem Stack.push8_eq (S : Stack) (v : Byte) : S.push8 v =
    if 254 < S.ptr then none else some (S.grow [v]) := by
  split <;> rename_i h
  · exact Stack.push8_none v (Nat.succ_lt_succ h)
  · exact Stack.push8_of_room v (Nat.not_lt.1 fun h' => h (Nat.lt_of_succ_lt_succ h'))

theorem Stack.push16_eq (S : Stack) (v : Word) : S.push16 v =
    if 253 < S.ptr then none else some (S.grow [hiByte v, loByte v]) := by
  split <;> rename_i h
  · exact Stack.push16_none v (by unfold stackMaxDepth; omega)
  · exact Stack.push16_of_room v (by unfold stackMaxDepth; omega)

theorem Stack.pop8_eq_some {S T : Stack} {v : Byte} (h : S.pop8 = some (v, T)) :
    1 ≤ S.position ∧ v = Memory.read S.dat (S.position - 1) ∧ T = S.drop 1 := by
  rw [Stack.pop8_eq] at h
  split at h <;> cases h
  exact ⟨by omega, rfl, rfl⟩

theorem Stack.pop16_eq_some {S T : Stack} {v : Word} (h : S.pop16 = some (v, T)) :
    2 ≤ S.position ∧ v = wordOf (Memory.read S.dat (S.position - 2)) (Memory.read S.dat (S.position - 1)) ∧
      T = S.drop 2 := by
  rw [Stack.pop16_eq] at h
  split at h <;> cases h
  exact ⟨by omega, rfl, rfl⟩

theorem Stack.push8_eq_some {S T : Stack} {v : Byte} (h : S.push8 v = some T) :
    S.ptr + 1 ≤ 255 ∧ T = S.grow [v] := by
  rw [Stack.push8_eq] at h
  split at h <;> cases h
  exact ⟨by omega, rfl⟩

theorem Stack.push16_eq_some {S T : Stack} {v : Word} (h : S.push16 v = some T) :
    S.ptr + 2 ≤ 255 ∧ T = S.grow [hiByte v, loByte v] := by
  rw [Stack.push16_eq] at h
  split at h <;> cases h
  exact ⟨by omega, rfl⟩

@[simp] theorem Stack.grow_ptr (S : Stack) (l : List Byte) : (S.grow l).ptr = S.ptr + l.length := rfl
@[simp] theorem Stack.grow_kc (S : Stack) (l : List Byte) : (S.grow l).kc = S.kc := rfl
@[simp] theorem Stack.grow_keep (S : Stack) (l : List Byte) : (S.grow l).keep = S.keep := rfl
@[simp] theorem Stack.drop_dat (S : Stack) (n : Nat) : (S.drop n).dat = S.dat := by
  unfold Stack.drop; split <;> rfl
@[simp] theorem Stack.drop_keep (S : Stack) (n : Nat) : (S.drop n).keep = S.keep := by
  unfold Stack.drop; split <;> rfl

theorem Stack.drop_of_keep {S : Stack} (h : S.keep = true) (n : Nat) : S.drop n = { S with kc := S.kc - n } :=
  if_pos h

theorem Stack.drop_of_not_keep {S : Stack} (h : S.keep = false) (n : Nat) :
    S.drop n = { S with ptr := S.ptr - n } := if_neg (by simp [h])

/-- A relation across every pop and every push that succeeds on the stack `id`. -/
theorem StackSteps.of_drop_grow {R : State → State → Prop} {id : StackId}
    (drop : ∀ s n, R s (s.setStack id ((s.stack id).drop n)))
    (grow : ∀ s l, (s.stack id).ptr + l.length ≤ 255 → R s (s.setStack id ((s.stack id).grow l))) :
    StackSteps R id where
  pop8 s _ S h := by
    obtain ⟨-, -, rfl⟩ := Stack.pop8_eq_some h
    exact drop s 1
  pop16 s _ S h := by
    obtain ⟨-, -, rfl⟩ := Stack.pop16_eq_some h
    exact drop s 2
  push8 s v S h := by
    obtain ⟨room, rfl⟩ := Stack.push8_eq_some h
    exact grow s _ room
  push16 s v S h := by
    obtain ⟨room, rfl⟩ := Stack.push16_eq_some h
    exact grow s _ room

/-- The bytes of a stack that grew by a byte (10_state.md R16). -/
theorem Stack.read_grow_byte (S : Stack) (v : Byte) (i : Nat) :
    Memory.read (S.grow [v]).dat i = if i = S.ptr then v else Memory.read S.dat i :=
  Memory.read_write _ _ _ _

/-- The bytes of a stack that grew by a word, the high byte deeper (10_state.md R17). -/
theorem Stack.read_grow_word (S : Stack) (hi lo : Byte) (i : Nat) :
    Memory.read (S.grow [hi, lo]).dat i =
      if i = S.ptr then hi else if i = S.ptr + 1 then lo else Memory.read S.dat i := by
  show Memory.read (Memory.write (Memory.write S.dat S.ptr hi) (S.ptr + 1) lo) i = _
  simp only [Memory.read_write]
  split
  · rw [if_neg (by omega)]
  · rfl

/-- What a pop moves: the keep cursor in keep mode, else the pointer (10_state.md R18, R19). -/
theorem Stack.drop_cursors (S : Stack) (n : Nat) :
    if S.keep then (S.drop n).kc = S.kc - n ∧ (S.drop n).ptr = S.ptr
    else (S.drop n).kc = S.kc ∧ (S.drop n).ptr = S.ptr - n := by
  cases h : S.keep with
  | true => simp [Stack.drop_of_keep h]
  | false => simp [Stack.drop_of_not_keep h]

end Sys2Proof.Machine
end

section
/-! PROOFS. The laws of the stack unit (spec/10_state.md R16 to R19, R34). -/

namespace Sys2Proof.Machine

/-- Settles O7: by what a push answers, and the bytes of a stack that grew. -/
theorem pushStoresAtThePointer : Obligations.PushStoresAtThePointer := by
  refine ⟨fun S v => ⟨?_, fun T h => ?_⟩, fun S v => ⟨?_, fun T h => ?_⟩⟩
  · simp [Stack.push8_eq]
  · obtain ⟨-, rfl⟩ := Stack.push8_eq_some h
    exact ⟨rfl, rfl, rfl, Stack.read_grow_byte S v⟩
  · simp [Stack.push16_eq]
  · obtain ⟨-, rfl⟩ := Stack.push16_eq_some h
    exact ⟨rfl, rfl, rfl, Stack.read_grow_word S _ _⟩

/-- Settles O8: by what a pop answers, and what it moves. -/
theorem popReadsBelowItsPosition : Obligations.PopReadsBelowItsPosition := by
  refine fun S => ⟨?_, ?_, fun v T h => ?_, fun v T h => ?_⟩
  · simp [Stack.pop8_eq, Stack.position]
  · simp [Stack.pop16_eq, Stack.position]
  · obtain ⟨-, rfl, rfl⟩ := Stack.pop8_eq_some h
    exact ⟨rfl, S.drop_dat 1, S.drop_keep 1, S.drop_cursors 1⟩
  · obtain ⟨-, rfl, rfl⟩ := Stack.pop16_eq_some h
    exact ⟨hiByte_wordOf _ _, loByte_wordOf _ _, S.drop_dat 2, S.drop_keep 2, S.drop_cursors 2⟩

/-! ### The round trips of R34 -/

/-- A stack not in keep mode that grew and dropped as many bytes: pointer and content are back. -/
theorem Stack.drop_grow {S : Stack} (h : S.keep = false) (l : List Byte) :
    ((S.grow l).drop l.length).ptr = S.ptr ∧ ((S.grow l).drop l.length).content = S.content := by
  have p := ((Stack.pic_of_not_keep h).grow l).drop (n := l.length) rfl
  exact ⟨by simpa using congrArg List.length p.content_eq, p.content_eq⟩

/-- What pops see of a stack that grew, outside keep mode. -/
theorem Stack.grow_view {S : Stack} (h : S.keep = false) (l : List Byte) :
    (S.grow l).view = S.content ++ l := ((Stack.pic_of_not_keep h).grow l).view_eq

/-- The stack out of keep mode, its pointer where the keep cursor is: what pops see is the same. Its own keep
cursor, which no pop looks at, is `k`. -/
def Stack.atCursor (S : Stack) (k : Nat) : Stack := { dat := S.dat, ptr := S.kc, kc := k, keep := false }

/-- A pop in keep mode answers what the same pop in normal mode does from the cursor's position. -/
theorem Stack.pop8_atCursor {S T : Stack} {v : Byte} (k : Nat) (hk : S.keep = true)
    (h : S.pop8 = some (v, T)) : (S.atCursor k).pop8 = some (v, T.atCursor k) := by
  obtain ⟨hp, rfl, rfl⟩ := Stack.pop8_eq_some h
  rw [Stack.position, if_pos hk] at hp ⊢
  rw [Stack.drop_of_keep hk]
  exact ((S.atCursor k).pop8_eq).trans (if_neg (c := S.kc < 1) (Nat.not_lt.2 hp))

theorem Stack.pop16_atCursor {S T : Stack} {v : Word} (k : Nat) (hk : S.keep = true)
    (h : S.pop16 = some (v, T)) : (S.atCursor k).pop16 = some (v, T.atCursor k) := by
  obtain ⟨hp, rfl, rfl⟩ := Stack.pop16_eq_some h
  rw [Stack.position, if_pos hk] at hp ⊢
  rw [Stack.drop_of_keep hk]
  exact ((S.atCursor k).pop16_eq).trans (if_neg (c := S.kc < 2) (Nat.not_lt.2 hp))

/-- The first of several pops in keep mode, beside the same pop in normal mode. -/
theorem Stack.popMany_cons {S U : Stack} {w : Bool} {ws : List Bool} {vs : List Word} (k : Nat)
    (hk : S.keep = true) (h : S.popMany (w :: ws) = some (vs, U)) :
    ∃ n us, (S.drop n).popMany ws = some (us, U) ∧ ∀ V, ((S.drop n).atCursor k).popMany ws = some (us, V) →
      (S.atCursor k).popMany (w :: ws) = some (vs, V) := by
  cases w <;>
    simp only [Stack.popMany, Option.bind_eq_bind, Option.bind_eq_some_iff, Option.pure_def,
      Option.some.injEq, Prod.mk.injEq, Prod.exists] at h <;>
    obtain ⟨v, T, h1, us, _, h2, rfl, rfl⟩ := h
  case true =>
    have hc := Stack.pop16_atCursor k hk h1
    obtain ⟨-, -, rfl⟩ := Stack.pop16_eq_some h1
    exact ⟨2, us, h2, fun V hV => by simp [Stack.popMany, hc, hV]⟩
  case false =>
    have hc := Stack.pop8_atCursor k hk h1
    obtain ⟨-, -, rfl⟩ := Stack.pop8_eq_some h1
    exact ⟨1, us, h2, fun V hV => by simp [Stack.popMany, hc, hV]⟩

/-- Pops in keep mode change neither storage nor pointer, and the same pops in normal mode from the keep
cursor's position give the same items. -/
theorem Stack.popMany_keep {S T : Stack} {ws : List Bool} {vs : List Word} (k : Nat) (hk : S.keep = true)
    (h : S.popMany ws = some (vs, T)) :
    T.dat = S.dat ∧ T.ptr = S.ptr ∧ (S.atCursor k).popMany ws = some (vs, T.atCursor k) := by
  induction ws generalizing S vs with
  | nil =>
    cases h
    exact ⟨rfl, rfl, rfl⟩
  | cons w ws ih =>
    obtain ⟨n, us, rest, normal⟩ := Stack.popMany_cons k hk h
    obtain ⟨hd, hp, hm⟩ := ih ((S.drop_keep n).trans hk) rest
    exact ⟨hd.trans (S.drop_dat n), hp.trans (by rw [Stack.drop_of_keep hk]), normal _ hm⟩

/-- The content depends on the storage and the pointer only. -/
theorem Stack.content_congr {S T : Stack} (hd : T.dat = S.dat) (hp : T.ptr = S.ptr) : T.content = S.content := by
  rw [Stack.content, Stack.content, Stack.below, Stack.below, hd, hp]

/-- Settles O6: (a) by growing and dropping the same bytes, (b) by running the keep-mode pops beside the same
pops in normal mode, (c) by when pushes and pops fail. -/
theorem stackUnitLaws : Obligations.StackUnitLaws := by
  refine ⟨fun S T v hk h => ?byte, fun S T v hk h => ?word, fun S T ws vs hk h => ?keep, fun S v w h => ?full,
    fun S h hk => ?empty⟩
  case byte =>
    obtain ⟨-, rfl⟩ := Stack.push8_eq_some h
    exact ⟨_, Stack.pop8_of_view (Stack.grow_view hk _), Stack.drop_grow hk [v]⟩
  case word =>
    obtain ⟨-, rfl⟩ := Stack.push16_eq_some h
    refine ⟨_, ?_, Stack.drop_grow hk [hiByte v, loByte v]⟩
    simpa using Stack.pop16_of_view (Stack.grow_view hk [hiByte v, loByte v])
  case keep =>
    obtain ⟨hd, hp, hm⟩ := Stack.popMany_keep T.kc rfl h
    have again : T.leaveKeep = S.enterKeep.atCursor T.kc := by
      rw [Stack.leaveKeep, Stack.atCursor, hd, hp]; rfl
    exact ⟨hp, Stack.content_congr hd hp, _, again ▸ hm⟩
  case full => simp [Stack.push8_eq, Stack.push16_eq, h]
  case empty => simp [Stack.pop8_eq, Stack.position, h, hk]

end Sys2Proof.Machine
end

section
/-! PROOFS. The next states of a step, one case each, and what a transaction of the host does
(spec/40_step_break_literal.md R91, spec/60_exceptions.md R191, R196). -/

namespace Sys2Proof.Machine

/-- The state with what the host has yet to do replaced. -/
def State.withPending (s : State) (rest : List HostCommand) : State := { s with pending := rest }

/-- An event stores its payload; it starts a run unless the vector is 0 (60_exceptions.md R191). -/
theorem State.injectEvent_cases (s : State) (d : BitVec 4) (payload : List (Byte × Byte)) :
    s.injectEvent d payload = s.writePayload payload ∨
      ∃ vec, vec ≠ 0 ∧ s.injectEvent d payload = (s.writePayload payload).startRun vec := by
  unfold State.injectEvent
  by_cases h : (s.writePayload payload).devVector (slotOrigin d) = 0
  · exact .inl (if_neg (not_not_intro h))
  · exact .inr ⟨_, h, if_pos h⟩

/-- The next states of a step. -/
inductive NextCases (s : State) : State → Prop
  /-- The host's Reset is due. -/
  | reset {n : Nat} {rest : List HostCommand} (pending : s.pending = .reset n :: rest) (due : s.resetDue = true) :
      NextCases s { State.reset with binding := s.binding, hostState := s.hostState, pending := rest }
  /-- A running core halts. -/
  | halts (due : s.resetDue = false) (status : s.status = .running) (test : s.haltTest = true) :
      NextCases s s.letPass.halt
  /-- A running core runs an instruction. -/
  | runs {t : State} (due : s.resetDue = false) (status : s.status = .running) (test : s.haltTest = false)
      (run : exec s.fetch s.letPass = .next t) : NextCases s t
  /-- A halted core stays idle. -/
  | idle (due : s.resetDue = false) (status : s.status = .halted) : NextCases s s
  /-- The host loads an image. -/
  | loadImage {img : List Byte} {rest : List HostCommand} (due : s.resetDue = false)
      (status : s.status = .halted) : NextCases s ((s.withPending rest).loadBytes imageOrigin img)
  /-- The host starts a run. -/
  | run {a : Word} {rest : List HostCommand} (due : s.resetDue = false) (status : s.status = .halted)
      (pending : s.pending = .run a :: rest) : NextCases s ((s.withPending rest).startRun a)
  /-- An event that starts no run. -/
  | quietEvent {payload : List (Byte × Byte)} {rest : List HostCommand} (due : s.resetDue = false)
      (status : s.status = .halted) : NextCases s ((s.withPending rest).writePayload payload)
  /-- An event that starts a run. -/
  | event {d : BitVec 4} {payload : List (Byte × Byte)} {rest : List HostCommand} {vec : Word}
      (due : s.resetDue = false) (status : s.status = .halted)
      (pending : s.pending = .injectEvent d payload :: rest) (nonzero : vec ≠ 0) :
      NextCases s (((s.withPending rest).writePayload payload).startRun vec)

/-- A transaction of the host on a halted core, no Reset being due. -/
theorem nextCases_of_transact {s t : State} {c : HostCommand} {rest : List HostCommand}
    (due : s.resetDue = false) (status : s.status = .halted) (pending : s.pending = c :: rest)
    (h : transact c (s.withPending rest) = .next t) : NextCases s t := by
  have halted : ¬(s.withPending rest).status ≠ .halted := not_not_intro status
  cases c with
  | reset n =>
    have := s.resetDue_iff.2 ⟨n, rest, pending, .inr (by simp [status])⟩
    simp [due] at this
  | loadImage img =>
    rw [transact, if_neg halted] at h
    split at h <;> cases h
    exact .loadImage due status
  | run a =>
    rw [transact, if_neg halted] at h
    cases h
    exact .run due status pending
  | injectEvent d payload =>
    rw [transact, if_neg halted] at h
    cases h
    rcases (s.withPending rest).injectEvent_cases d payload with e | ⟨vec, hv, e⟩
    · exact e ▸ .quietEvent due status
    · exact e ▸ .event due status pending hv

theorem step_next {s t : State} (h : step s = .next t) : NextCases s t := by
  have cases := step_cases s
  generalize step s = o at cases h
  subst h
  generalize ho : Host.Outcome.next t = o at cases
  cases cases with
  | @reset n rest pending due =>
    cases ho
    exact .reset pending (s.resetDue_iff.2 ⟨n, rest, pending, due⟩)
  | halts due status test =>
    cases ho
    exact .halts due status test
  | runs due status test => exact .runs due status test ho.symm
  | idle status pending =>
    cases ho
    exact .idle (by simp [State.resetDue, pending]) status
  | host due status pending => exact nextCases_of_transact due status pending ho.symm
  | stops => cases ho

end Sys2Proof.Machine
end

section
/-! PROOFS. The invariant of stacks and memories (spec/10_state.md R12, R14, R15, R26, R27). -/

namespace Sys2Proof.Machine

/-- The invariant of a stack inside an instruction: as between two, but keep mode may be on. -/
structure Stack.Bounded (S : Stack) : Prop where
  wf : Memory.wf S.dat
  within : Memory.within S.dat stackMaxDepth
  ptr : S.ptr ≤ stackMaxDepth
  kc : S.kc ≤ stackMaxDepth

/-- The invariant of the machine inside an instruction. -/
structure State.Bounded (s : State) : Prop where
  stack : ∀ id, (s.stack id).Bounded
  mem : Memory.wf s.mem ∧ Memory.within s.mem memSize
  dev : Memory.wf s.dev ∧ Memory.within s.dev devSize

theorem State.inv_iff (s : State) : s.Inv ↔ s.Bounded ∧ s.wst.keep = false ∧ s.rst.keep = false := by
  constructor
  · rintro ⟨⟨w1, w2, w3, w4, wk⟩, ⟨r1, r2, r3, r4, rk⟩, m1, m2, d1, d2⟩
    refine ⟨⟨fun id => ?_, ⟨m1, m2⟩, d1, d2⟩, wk, rk⟩
    cases id
    · exact ⟨w1, w2, w3, w4⟩
    · exact ⟨r1, r2, r3, r4⟩
  · rintro ⟨⟨stack, ⟨m1, m2⟩, d1, d2⟩, wk, rk⟩
    obtain ⟨w1, w2, w3, w4⟩ := stack .wst
    obtain ⟨r1, r2, r3, r4⟩ := stack .rst
    exact ⟨⟨w1, w2, w3, w4, wk⟩, ⟨r1, r2, r3, r4, rk⟩, m1, m2, d1, d2⟩

/-! ### The stack unit keeps it -/

/-- A list of bytes written below `n` keeps the canonical form inside `n`. -/
theorem Memory.wf_writeList {m : Memory} {a n : Nat} (l : List Byte) (room : a + l.length ≤ n)
    (h : Memory.wf m ∧ Memory.within m n) :
    Memory.wf (Memory.writeList m a l) ∧ Memory.within (Memory.writeList m a l) n := by
  induction l generalizing m a with
  | nil => exact h
  | cons b l ih =>
    rw [List.length_cons] at room
    exact ih (by omega) ⟨Memory.wf_write _ _ h.1, Memory.within_write _ (by omega) h.2⟩

theorem Stack.Bounded.drop {S : Stack} (h : S.Bounded) (n : Nat) : (S.drop n).Bounded := by
  unfold Stack.drop
  split
  · exact ⟨h.wf, h.within, h.ptr, (Nat.sub_le _ _).trans h.kc⟩
  · exact ⟨h.wf, h.within, (Nat.sub_le _ _).trans h.ptr, h.kc⟩

theorem Stack.Bounded.grow {S : Stack} (h : S.Bounded) {l : List Byte} (room : S.ptr + l.length ≤ 255) :
    (S.grow l).Bounded :=
  have ⟨wf, within⟩ := Memory.wf_writeList l room ⟨h.wf, h.within⟩
  ⟨wf, within, room, h.kc⟩

theorem Stack.Bounded.enterKeep {S : Stack} (h : S.Bounded) : S.enterKeep.Bounded :=
  ⟨h.wf, h.within, h.ptr, h.ptr⟩

theorem Stack.Bounded.leaveKeep {S : Stack} (h : S.Bounded) : S.leaveKeep.Bounded :=
  ⟨h.wf, h.within, h.ptr, h.kc⟩

theorem Memory.wf_nil (n : Nat) : Memory.wf [] ∧ Memory.within [] n :=
  ⟨⟨.nil, fun _ h => nomatch h⟩, fun _ h => nomatch h⟩

theorem Stack.bounded_empty : Stack.empty.Bounded :=
  have ⟨wf, within⟩ := Memory.wf_nil stackMaxDepth
  ⟨wf, within, Nat.zero_le _, Nat.zero_le _⟩

/-! ### The updates of the state keep it -/

theorem State.Bounded.setStack {s : State} (h : s.Bounded) {id : StackId} {S : Stack} (hS : S.Bounded) :
    (s.setStack id S).Bounded where
  stack j := by
    by_cases hj : j = id
    · rw [hj, State.setStack_stack_same]; exact hS
    · rw [State.setStack_stack_other s S hj]; exact h.stack j
  mem := by simpa using h.mem
  dev := by simpa using h.dev

/-- It does not depend on the other fields of the state. -/
theorem State.Bounded.congr {s t : State} (h : s.Bounded) (stack : ∀ id, t.stack id = s.stack id)
    (mem : t.mem = s.mem) (dev : t.dev = s.dev) : t.Bounded :=
  ⟨fun id => stack id ▸ h.stack id, mem ▸ h.mem, dev ▸ h.dev⟩

theorem State.Bounded.begin {s : State} (h : s.Bounded) (m : Mode) : (s.begin m).Bounded := by
  have started : (s.advance 1).Bounded := h.congr (s.advance_stack 1) rfl rfl
  unfold State.begin
  split
  · exact started.setStack (started.stack _).enterKeep
  · exact started

theorem State.Bounded.clearKeep {s : State} (h : s.Bounded) : s.clearKeep.Bounded :=
  ⟨fun id => s.clearKeep_stack id ▸ (h.stack id).leaveKeep, h.mem, h.dev⟩

theorem State.Bounded.takeFault {s : State} (h : s.Bounded) (c : Cause) : (s.takeFault c).Bounded :=
  h.clearKeep.congr (fun id => by simp) rfl rfl

theorem State.Bounded.memWrite8 {s : State} (h : s.Bounded) (a : Word) (v : Byte) : (s.memWrite8 a v).Bounded :=
  ⟨fun id => s.memWrite8_stack a v id ▸ h.stack id, State.wf_memWrite8 a v h.mem, h.dev⟩

theorem State.Bounded.setDevByte {s : State} (h : s.Bounded) (a v : Byte) : (s.setDevByte a v).Bounded :=
  ⟨fun id => s.setDevByte_stack a v id ▸ h.stack id, h.mem, State.wf_setDevByte a v h.dev⟩

theorem State.Bounded.devRead {s : State} (h : s.Bounded) (a : Byte) : (s.devRead a).2.Bounded := by
  rw [State.devRead_frame]
  exact h.congr (fun id => by cases id <;> rfl) rfl rfl

theorem State.Bounded.devWrite {s : State} (h : s.Bounded) (a v : Byte) : (s.devWrite a v).Bounded := by
  rw [State.devWrite_frame]
  exact (h.setDevByte a v).congr (fun id => by cases id <;> rfl) rfl rfl

theorem State.Bounded.loadBytes {s : State} (h : s.Bounded) (a : Word) (l : List Byte) :
    (s.loadBytes a l).Bounded := by
  induction l generalizing s a with
  | nil => exact h
  | cons b l ih => exact ih (h.memWrite8 a b) _

theorem State.Bounded.writePayload {s : State} (h : s.Bounded) (l : List (Byte × Byte)) :
    (s.writePayload l).Bounded := by
  induction l generalizing s with
  | nil => exact h
  | cons c l ih => exact ih (h.setDevByte c.1 c.2)

/-! ### Instructions and steps keep it -/

theorem stackSteps_bounded (id : StackId) : StackSteps (fun s t => s.Bounded → t.Bounded) id :=
  .of_drop_grow (fun _ n h => h.setStack ((h.stack id).drop n))
    fun _ _ room h => h.setStack ((h.stack id).grow room)

theorem bodyOf_bounded (lit : Word) (b : Base) (m : Mode) :
    Keeps (fun s t => s.Bounded → t.Bounded) (bodyOf lit b m) :=
  keeps_bodyOf (fun _ h => h) (fun _ _ _ h1 h2 h => h2 (h1 h)) (stackSteps_bounded _)
    (fun _ => stackSteps_bounded _) (fun _ _ _ h => h.congr (fun id => by cases id <;> rfl) rfl rfl)
    (fun _ _ a v h => h.memWrite8 a v) (fun _ _ a h => h.devRead a) (fun _ _ a v h => h.devWrite a v)

theorem exec_bounded {i : Instr} {s t : State} (hi : i ≠ .brk) (h : exec i s = .next t) (hs : s.Bounded) :
    t.Bounded := by
  obtain ⟨u, hu, rfl | ⟨c, rfl⟩⟩ := exec_keeps hi (bodyOf_bounded _ _ _) h
  · exact (hu (hs.begin _)).clearKeep
  · exact (hu (hs.begin _)).takeFault c

/-- Keep mode is over after an instruction, whether it completed or faulted (10_state.md R20). -/
theorem exec_keep_off {i : Instr} {s t : State} (hi : i ≠ .brk) (h : exec i s = .next t) :
    t.wst.keep = false ∧ t.rst.keep = false := by
  rcases exec_next hi h with ⟨u, -, rfl⟩ | ⟨c, u, -, rfl⟩ <;> exact ⟨rfl, rfl⟩

theorem exec_inv {i : Instr} {s t : State} (h : exec i s = .next t) (hs : s.Inv) : t.Inv := by
  by_cases hi : i = .brk
  · subst hi
    cases h
    exact hs
  · exact t.inv_iff.2 ⟨exec_bounded hi h (s.inv_iff.1 hs).1, exec_keep_off hi h⟩

/-- The invariant does not depend on what is not in a stack or a memory. -/
theorem State.Inv.congr {s t : State} (h : s.Inv) (wst : t.wst = s.wst) (rst : t.rst = s.rst)
    (mem : t.mem = s.mem) (dev : t.dev = s.dev) : t.Inv := by
  rwa [State.Inv, wst, rst, mem, dev]

theorem State.Inv.withPending {s : State} (h : s.Inv) (rest : List HostCommand) : (s.withPending rest).Inv := h

theorem State.Inv.startRun {s : State} (h : s.Inv) (a : Word) : (s.startRun a).Inv := h

theorem State.Inv.loadBytes {s : State} (h : s.Inv) (a : Word) (l : List Byte) : (s.loadBytes a l).Inv := by
  obtain ⟨hb, hk⟩ := s.inv_iff.1 h
  refine (State.inv_iff _).2 ⟨hb.loadBytes a l, ?_⟩
  rw [s.loadBytes_frame]
  exact hk

theorem State.Inv.writePayload {s : State} (h : s.Inv) (l : List (Byte × Byte)) : (s.writePayload l).Inv := by
  obtain ⟨hb, hk⟩ := s.inv_iff.1 h
  refine (State.inv_iff _).2 ⟨hb.writePayload l, ?_⟩
  rw [s.writePayload_frame]
  exact hk

/-- Settles O24: empty stacks and memories have no cell out of order or out of bounds. -/
theorem resetMeetsTheInvariant : Obligations.ResetMeetsTheInvariant :=
  (State.inv_iff _).2 ⟨⟨fun id => by cases id <;> exact Stack.bounded_empty, Memory.wf_nil _, Memory.wf_nil _⟩,
    rfl, rfl⟩

/-- Settles O25, by the cases of a step: an instruction keeps the invariant because every piece of a body keeps
the weaker one that allows keep mode, and keep mode is over at its end. -/
theorem everyStepKeepsTheInvariant : Obligations.EveryStepKeepsTheInvariant := by
  intro s t inv h
  cases step_next h with
  | reset => exact State.Inv.congr resetMeetsTheInvariant rfl rfl rfl rfl
  | halts => exact inv.congr s.letPass_wst s.letPass_rst s.letPass_mem s.letPass_dev
  | runs _ _ _ run => exact exec_inv run (inv.congr s.letPass_wst s.letPass_rst s.letPass_mem s.letPass_dev)
  | idle => exact inv
  | loadImage => exact (inv.withPending _).loadBytes _ _
  | run => exact (inv.withPending _).startRun _
  | quietEvent => exact (inv.withPending _).writePayload _
  | event => exact ((inv.withPending _).writePayload _).startRun _

end Sys2Proof.Machine
end

section
/-! PROOFS. Two states that differ only in what no rule reads take the same steps (spec/10_state.md R11, R13,
R15): inside an instruction both stacks keep one picture, content and what pops see, so every pop and push
answers alike. -/

namespace Sys2Proof.Machine

/-- Two stacks inside an instruction with the same picture: their keep marks, what pops see of them and their
contents are the same. -/
def Stack.Twins (S T : Stack) : Prop :=
  ∃ k kc kc' view content, S.Pic k kc view content ∧ T.Pic k kc' view content

/-- The state with both stacks replaced. -/
def State.withStacks (s : State) (w r : Stack) : State := { s with wst := w, rst := r }

/-- Two states inside an instruction that differ at most in stacks with the same pictures. -/
def State.Twins (s t : State) : Prop := ∃ w r, t = s.withStacks w r ∧ s.wst.Twins w ∧ s.rst.Twins r

/-! ### Stacks -/

theorem Stack.Alike.twins {S T : Stack} (h : S.Alike T) (hk : S.keep = false) : S.Twins T := by
  obtain ⟨content, keep⟩ := h
  exact ⟨_, _, _, _, _, Stack.pic_of_not_keep hk, content ▸ Stack.pic_of_not_keep (keep ▸ hk)⟩

theorem Stack.Alike.enterKeep {S T : Stack} (h : S.Alike T) : S.enterKeep.Twins T.enterKeep :=
  ⟨_, 0, 0, _, _, S.pic_enterKeep 0, h.1 ▸ T.pic_enterKeep 0⟩

theorem Stack.Twins.leaveKeep {S T : Stack} (h : S.Twins T) : S.leaveKeep.Alike T.leaveKeep := by
  obtain ⟨_, _, _, _, _, p, q⟩ := h
  exact ⟨p.leaveKeep.trans q.leaveKeep.symm, rfl⟩

/-! ### The operations of the state under replaced stacks -/

theorem State.twins_withStacks {s : State} {w r : Stack} (hw : s.wst.Twins w) (hr : s.rst.Twins r) :
    s.Twins (s.withStacks w r) := ⟨w, r, rfl, hw, hr⟩

theorem State.Twins.stack {s t : State} (h : s.Twins t) (id : StackId) : (s.stack id).Twins (t.stack id) := by
  obtain ⟨w, r, rfl, hw, hr⟩ := h
  cases id
  · exact hw
  · exact hr

theorem State.Twins.setStack {s t : State} (h : s.Twins t) (id : StackId) {S T : Stack} (hS : S.Twins T) :
    (s.setStack id S).Twins (t.setStack id T) := by
  obtain ⟨w, r, rfl, hw, hr⟩ := h
  cases id
  · exact State.twins_withStacks hS hr
  · exact State.twins_withStacks hw hS

theorem State.withStacks_devRead (s : State) (w r : Stack) (a : Byte) :
    (s.withStacks w r).devRead a = ((s.devRead a).1, (s.devRead a).2.withStacks w r) := by
  obtain ⟨_, _, _, _, _, _, _, b, _, _⟩ := s
  cases b <;> rfl

theorem State.withStacks_devWrite (s : State) (w r : Stack) (a v : Byte) :
    (s.withStacks w r).devWrite a v = (s.devWrite a v).withStacks w r := by
  obtain ⟨_, _, _, _, _, _, _, b, _, _⟩ := s
  cases b
  · unfold State.devWrite State.onWrite
    dsimp only [State.withStacks, State.setDevByte]
    split <;> rfl
  · rfl

theorem State.withStacks_letPass (s : State) (w r : Stack) :
    (s.withStacks w r).letPass = s.letPass.withStacks w r := by
  unfold State.letPass
  dsimp only [State.withStacks]
  split <;> rfl

theorem State.withStacks_loadBytes (s : State) (w r : Stack) (a : Word) (l : List Byte) :
    (s.withStacks w r).loadBytes a l = (s.loadBytes a l).withStacks w r := by
  induction l generalizing s a with
  | nil => rfl
  | cons b l ih => exact ih (s.memWrite8 a b) (a + 1)

theorem State.withStacks_writePayload (s : State) (w r : Stack) (l : List (Byte × Byte)) :
    (s.withStacks w r).writePayload l = (s.writePayload l).withStacks w r := by
  induction l generalizing s with
  | nil => rfl
  | cons c l ih => exact ih (s.setDevByte c.1 c.2)

theorem State.withStacks_injectEvent (s : State) (w r : Stack) (d : BitVec 4) (l : List (Byte × Byte)) :
    (s.withStacks w r).injectEvent d l = (s.injectEvent d l).withStacks w r := by
  unfold State.injectEvent
  rw [State.withStacks_writePayload]
  generalize s.writePayload l = t
  exact (apply_ite (State.withStacks · w r) (t.devVector (slotOrigin d) ≠ 0)
    (t.startRun (t.devVector (slotOrigin d))) t).symm

theorem State.injectEvent_frame (s : State) (d : BitVec 4) (l : List (Byte × Byte)) :
    (s.injectEvent d l).wst = s.wst ∧ (s.injectEvent d l).rst = s.rst := by
  rcases s.injectEvent_cases d l with e | ⟨vec, -, e⟩ <;> rw [e, s.writePayload_frame] <;> exact ⟨rfl, rfl⟩

@[simp] theorem State.withStacks_status (s : State) (w r : Stack) : (s.withStacks w r).status = s.status := rfl
@[simp] theorem State.withStacks_pending (s : State) (w r : Stack) : (s.withStacks w r).pending = s.pending := rfl
@[simp] theorem State.withStacks_resetDue (s : State) (w r : Stack) :
    (s.withStacks w r).resetDue = s.resetDue := rfl
@[simp] theorem State.withStacks_haltTest (s : State) (w r : Stack) :
    (s.withStacks w r).haltTest = s.haltTest := rfl
@[simp] theorem State.withStacks_fetch (s : State) (w r : Stack) : (s.withStacks w r).fetch = s.fetch := rfl

/-! ### Every piece of a body answers alike -/

theorem Stack.view_eq_below (S : Stack) : S.view = S.below S.position := rfl

theorem Stack.Twins.ptr_eq {S T : Stack} (h : S.Twins T) : S.ptr = T.ptr := by
  obtain ⟨_, _, _, _, _, p, q⟩ := h
  simpa using congrArg List.length (p.content_eq.trans q.content_eq.symm)

theorem Stack.Twins.view_eq {S T : Stack} (h : S.Twins T) : S.view = T.view := by
  obtain ⟨_, _, _, _, _, p, q⟩ := h
  exact p.view_eq.trans q.view_eq.symm

theorem Stack.Twins.position_eq {S T : Stack} (h : S.Twins T) : S.position = T.position := by
  simpa [Stack.view_eq_below] using congrArg List.length h.view_eq

/-- Below the position pops read from, the storage is the same. -/
theorem Stack.Twins.read_eq {S T : Stack} (h : S.Twins T) {i : Nat} (hi : i < S.position) :
    Memory.read S.dat i = Memory.read T.dat i := by
  have view := h.view_eq
  rw [Stack.view_eq_below, Stack.view_eq_below, ← h.position_eq] at view
  exact List.map_inj_left.1 view i (List.mem_range.2 hi)

theorem Stack.Twins.drop {S T : Stack} (h : S.Twins T) {n : Nat} (hn : n ≤ S.position) :
    (S.drop n).Twins (T.drop n) := by
  obtain ⟨k, kc, kc', v, c, p, q⟩ := h
  have split := (v.take_append_drop (v.length - n)).symm
  have hl : (v.drop (v.length - n)).length = n := by
    have : v.length = S.position := by simp [← p.view_eq, Stack.view_eq_below]
    rw [List.length_drop]
    omega
  exact ⟨k, kc, kc', _, _, (split ▸ p).drop hl, (split ▸ q).drop hl⟩

theorem Stack.Twins.grow {S T : Stack} (h : S.Twins T) (l : List Byte) : (S.grow l).Twins (T.grow l) := by
  obtain ⟨k, kc, kc', _, _, p, q⟩ := h
  exact ⟨k, kc, kc', _, _, p.grow l, q.grow l⟩

theorem couples_pop8 (id : StackId) : Couples State.Twins (pop8 id) := by
  intro s t h
  have hs := h.stack id
  simp only [pop8, Stack.pop8_eq, ← hs.position_eq]
  by_cases few : (s.stack id).position < 1
  · simpa [few] using h
  · simp only [few, if_false]
    exact ⟨hs.read_eq (by omega), h.setStack id (hs.drop (by omega))⟩

theorem couples_pop16 (id : StackId) : Couples State.Twins (pop16 id) := by
  intro s t h
  have hs := h.stack id
  simp only [pop16, Stack.pop16_eq, ← hs.position_eq]
  by_cases few : (s.stack id).position < 2
  · simpa [few] using h
  · simp only [few, if_false]
    exact ⟨congrArg₂ wordOf (hs.read_eq (by omega)) (hs.read_eq (by omega)),
      h.setStack id (hs.drop (by omega))⟩

theorem couples_push8 (id : StackId) (v : Byte) : Couples State.Twins (push8 id v) := by
  intro s t h
  have hs := h.stack id
  simp only [push8, Stack.push8_eq, ← hs.ptr_eq]
  by_cases full : 254 < (s.stack id).ptr
  · simpa [full] using h
  · simp only [full, if_false]
    exact ⟨trivial, h.setStack id (hs.grow _)⟩

theorem couples_push16 (id : StackId) (v : Word) : Couples State.Twins (push16 id v) := by
  intro s t h
  have hs := h.stack id
  simp only [push16, Stack.push16_eq, ← hs.ptr_eq]
  by_cases full : 253 < (s.stack id).ptr
  · simpa [full] using h
  · simp only [full, if_false]
    exact ⟨trivial, h.setStack id (hs.grow _)⟩

/-- Under replaced stacks a piece that does not look at the stacks answers the same. -/
theorem couples_of_withStacks {α : Type} {x : Body α} {f : State → α} {g : State → State}
    (run : ∀ s, x s = .ok (f s) (g s)) (value : ∀ s w r, f (s.withStacks w r) = f s)
    (next : ∀ s w r, g (s.withStacks w r) = (g s).withStacks w r)
    (wst : ∀ s, (g s).wst = s.wst) (rst : ∀ s, (g s).rst = s.rst) : Couples State.Twins x := by
  rintro s _ ⟨w, r, rfl, hw, hr⟩
  rw [run, run, value, next]
  exact ⟨rfl, State.twins_withStacks (wst s ▸ hw) (rst s ▸ hr)⟩

theorem couplesPieces_twins : CouplesPieces State.Twins where
  pop8 := couples_pop8
  pop16 := couples_pop16
  push8 := couples_push8
  push16 := couples_push16
  readPc := couples_of_withStacks (g := id) (fun _ => rfl) (fun _ _ _ => rfl) (fun _ _ _ => rfl) (fun _ => rfl)
    fun _ => rfl
  writePc v := couples_of_withStacks (fun _ => rfl) (fun _ _ _ => rfl) (fun _ _ _ => rfl) (fun _ => rfl)
    fun _ => rfl
  load m a := couples_of_withStacks (g := id) (fun _ => rfl) (fun _ _ _ => rfl) (fun _ _ _ => rfl) (fun _ => rfl)
    fun _ => rfl
  store m a v := by
    obtain ⟨sh, r, k⟩ := m
    cases sh <;>
      exact couples_of_withStacks (fun _ => rfl) (fun _ _ _ => rfl) (fun _ _ _ => rfl) (fun _ => rfl) fun _ => rfl
  readDevice a := couples_of_withStacks (fun _ => rfl) (fun s w r => by rw [s.withStacks_devRead])
    (fun s w r => by rw [s.withStacks_devRead]) (fun s => by rw [s.devRead_frame]) fun s => by rw [s.devRead_frame]
  writeDevice a v := couples_of_withStacks (fun _ => rfl) (fun _ _ _ => rfl)
    (fun s w r => s.withStacks_devWrite w r a v) (fun s => by rw [s.devWrite_frame])
    fun s => by rw [s.devWrite_frame]

/-! ### Instructions and steps -/

theorem State.alike_withStacks {s : State} {w r : Stack} (hw : s.wst.Alike w) (hr : s.rst.Alike r) :
    s.Alike (s.withStacks w r) := ⟨hw, hr, rfl, rfl, rfl, rfl, rfl, rfl, rfl, rfl⟩

theorem State.Alike.eq_withStacks {s t : State} (h : s.Alike t) : t = s.withStacks t.wst t.rst := by
  obtain ⟨-, -, h1, h2, h3, h4, h5, h6, h7, h8⟩ := h
  cases s
  cases t
  cases h1; cases h2; cases h3; cases h4; cases h5; cases h6; cases h7; cases h8
  rfl

theorem State.Twins.clearKeep {s t : State} (h : s.Twins t) : s.clearKeep.Alike t.clearKeep := by
  obtain ⟨w, r, rfl, hw, hr⟩ := h
  exact State.alike_withStacks hw.leaveKeep hr.leaveKeep

theorem State.Twins.takeFault {s t : State} (h : s.Twins t) (c : Cause) : (s.takeFault c).Alike (t.takeFault c) := by
  obtain ⟨w, r, rfl, hw, hr⟩ := h
  exact State.alike_withStacks hw.leaveKeep hr.leaveKeep

theorem OutcomesAlike.of_next {s t : State} (h : s.Alike t) : OutcomesAlike (.next s) (.next t) := h

section

variable {s : State} {w r : Stack}

theorem State.twins_begin (hw : s.wst.Alike w) (hr : s.rst.Alike r) (kw : s.wst.keep = false)
    (kr : s.rst.keep = false) (m : Mode) : (s.begin m).Twins ((s.withStacks w r).begin m) := by
  have started : (s.advance 1).Twins ((s.withStacks w r).advance 1) :=
    State.twins_withStacks (hw.twins kw) (hr.twins kr)
  unfold State.begin
  split
  · refine started.setStack m.src ?_
    cases m.src
    · exact hw.enterKeep
    · exact hr.enterKeep
  · exact started

theorem exec_alike (hw : s.wst.Alike w) (hr : s.rst.Alike r) (kw : s.wst.keep = false)
    (kr : s.rst.keep = false) (i : Instr) : OutcomesAlike (exec i s) (exec i (s.withStacks w r)) := by
  by_cases hi : i = .brk
  · subst hi
    exact State.alike_withStacks hw hr
  · rw [exec_eq_runBody hi, exec_eq_runBody hi, runBody, runBody]
    have run := couplesPieces_twins.bodyOf i.literal i.base i.mode _ _ (State.twins_begin hw hr kw kr i.mode)
    revert run
    cases bodyOf i.literal i.base i.mode (s.begin i.mode) <;>
      cases bodyOf i.literal i.base i.mode ((s.withStacks w r).begin i.mode) <;> intro run
    case ok.ok => exact run.2.clearKeep
    case error.error =>
      obtain ⟨rfl, run⟩ := run
      exact run.takeFault _
    case ok.error => exact run.elim
    case error.ok => exact run.elim

/-- Two outcomes that branch on one condition are alike if their branches are. -/
theorem alike_of_ite {p : Prop} [Decidable p] {x y x' y' : Host.Outcome State Fault Refusal}
    (hx : OutcomesAlike x x') (hy : OutcomesAlike y y') :
    OutcomesAlike (if p then x else y) (if p then x' else y') := by
  split
  · exact hx
  · exact hy

theorem transact_alike (hw : s.wst.Alike w) (hr : s.rst.Alike r) (c : HostCommand) :
    OutcomesAlike (transact c s) (transact c (s.withStacks w r)) := by
  have moved : ∀ t : State, t.wst = s.wst → t.rst = s.rst → t.Alike (t.withStacks w r) :=
    fun t tw tr => State.alike_withStacks (tw ▸ hw) (tr ▸ hr)
  cases c with
  | reset n => exact State.alike_withStacks ⟨rfl, rfl⟩ ⟨rfl, rfl⟩
  | loadImage img =>
    refine alike_of_ite rfl (alike_of_ite ?_ rfl)
    rw [State.withStacks_loadBytes]
    exact moved _ (by rw [s.loadBytes_frame]) (by rw [s.loadBytes_frame])
  | run a => exact alike_of_ite rfl (moved (s.startRun a) rfl rfl)
  | injectEvent d payload =>
    refine alike_of_ite rfl ?_
    rw [State.withStacks_injectEvent]
    exact moved _ (s.injectEvent_frame d payload).1 (s.injectEvent_frame d payload).2

theorem hostTurn_alike (hw : s.wst.Alike w) (hr : s.rst.Alike r) :
    OutcomesAlike (hostTurn s) (hostTurn (s.withStacks w r)) := by
  unfold hostTurn
  rw [State.withStacks_pending]
  cases s.pending with
  | nil => exact State.alike_withStacks hw hr
  | cons c rest => exact transact_alike (s := s.withPending rest) hw hr c

end

/-- Settles O30: the second state is the first with stacks of the same contents in place of its own; the pieces
of a body answer alike while both keep one picture, and no transaction of the host looks at a stack. -/
theorem unoccupiedStackBytesAreNeverSeen : Obligations.UnoccupiedStackBytesAreNeverSeen := by
  intro s t kw kr h
  rw [h.eq_withStacks]
  obtain ⟨hw, hr, -⟩ := h
  simp only [step, State.withStacks_resetDue, State.withStacks_status, State.withStacks_haltTest,
    State.withStacks_fetch, State.withStacks_letPass]
  refine alike_of_ite (hostTurn_alike hw hr) ?_
  cases s.status with
  | running =>
    have hw' : s.letPass.wst.Alike t.wst := s.letPass_wst ▸ hw
    have hr' : s.letPass.rst.Alike t.rst := s.letPass_rst ▸ hr
    exact alike_of_ite (State.alike_withStacks hw' hr')
      (exec_alike hw' hr' (s.letPass_wst ▸ kw) (s.letPass_rst ▸ kr) s.fetch)
  | halted => exact hostTurn_alike hw hr
  | faulted c => exact rfl

end Sys2Proof.Machine
end

section
/-! PROOFS. What an instruction leaves alone (spec/10_state.md R22, R30, R31; spec/60_exceptions.md R184): what
each piece of a body does to a field of the state, and that field across the instruction. -/

namespace Sys2Proof.Machine

/-! ### What device accesses leave alone -/

section

variable (s : State) (a v : Byte)

@[simp] theorem State.devRead_stack (id : StackId) : (s.devRead a).2.stack id = s.stack id := by
  rw [State.devRead_frame]; cases id <;> rfl
@[simp] theorem State.devRead_mem : (s.devRead a).2.mem = s.mem := by rw [State.devRead_frame]
@[simp] theorem State.devRead_dev : (s.devRead a).2.dev = s.dev := by rw [State.devRead_frame]
@[simp] theorem State.devRead_pc : (s.devRead a).2.pc = s.pc := by rw [State.devRead_frame]
@[simp] theorem State.devRead_status : (s.devRead a).2.status = s.status := by rw [State.devRead_frame]
@[simp] theorem State.devRead_out : (s.devRead a).2.out = s.out := by rw [State.devRead_frame]
@[simp] theorem State.devRead_binding : (s.devRead a).2.binding = s.binding := by rw [State.devRead_frame]
@[simp] theorem State.devRead_pending : (s.devRead a).2.pending = s.pending := by rw [State.devRead_frame]

@[simp] theorem State.devWrite_stack (id : StackId) : (s.devWrite a v).stack id = s.stack id := by
  rw [State.devWrite_frame]; cases id <;> rfl
@[simp] theorem State.devWrite_mem : (s.devWrite a v).mem = s.mem := by rw [State.devWrite_frame]
@[simp] theorem State.devWrite_pc : (s.devWrite a v).pc = s.pc := by rw [State.devWrite_frame]
@[simp] theorem State.devWrite_status : (s.devWrite a v).status = s.status := by rw [State.devWrite_frame]
@[simp] theorem State.devWrite_binding : (s.devWrite a v).binding = s.binding := by rw [State.devWrite_frame]
@[simp] theorem State.devWrite_pending : (s.devWrite a v).pending = s.pending := by rw [State.devWrite_frame]

/-- A device write adds at most one byte to the console output (20_memory.md R55). -/
theorem State.devWrite_out : s.out <+: (s.devWrite a v).out := by
  unfold State.devWrite State.onWrite
  split
  · split
    · exact List.prefix_append _ _
    · exact List.prefix_rfl
  · exact List.prefix_rfl

end

@[simp] theorem State.setPc_stack (s : State) (v : Word) (id : StackId) :
    ({ s with pc := v } : State).stack id = s.stack id := by cases id <;> rfl

@[simp] theorem Stack.leaveKeep_leaveKeep (S : Stack) : S.leaveKeep.leaveKeep = S.leaveKeep := rfl

/-! ### A field of the state across a body and across an instruction -/

/-- A field that none of the pieces of a body touches is the same at its end or raise. -/
theorem keeps_field {α : Type} {f : State → α} {b : Base} {m : Mode} {lit : Word}
    (src : ∀ s S, f (s.setStack m.src S) = f s := by simp)
    (dst : b ∈ [Base.jsr, .sth] → ∀ s S, f (s.setStack m.dst S) = f s := by simp)
    (pc : b ∈ [Base.lit, .jmp, .jcn, .jsr] → ∀ s (v : Word), f { s with pc := v } = f s := by simp)
    (mem : b ∈ [Base.stz, .str, .sta] → ∀ s a v, f (s.memWrite8 a v) = f s := by simp)
    (read : b = .dei → ∀ s a, f (s.devRead a).2 = f s := by simp)
    (write : b = .deo → ∀ s a v, f (s.devWrite a v) = f s := by simp) :
    Keeps (fun s t => f t = f s) (bodyOf lit b m) :=
  keeps_bodyOf (fun _ => rfl) (fun _ _ _ h1 h2 => h2.trans h1) (.of_setStack src)
    (fun hb => .of_setStack (dst hb)) pc mem read write

/-- The program counter across a body that does not write it. -/
theorem keeps_pc {b : Base} {m : Mode} {lit : Word} (hb : b ∉ [Base.lit, .jmp, .jcn, .jsr]) :
    Keeps (fun s t => t.pc = s.pc) (bodyOf lit b m) := keeps_field (pc := fun hp => absurd hp hb)

section

variable {i : Instr} {s t : State}

/-- A field that neither the body nor the step cycle around it touches is the same after the instruction. -/
theorem exec_field {α : Type} (f : State → α) (h : exec i s = .next t)
    (body : Keeps (fun s t => f t = f s) (bodyOf i.literal i.base i.mode))
    (halt : f s.halt = f s := by simp) (start : f (s.begin i.mode) = f s := by simp)
    (clear : ∀ u, f u.clearKeep = f u := by simp) (fault : ∀ u c, f (u.takeFault c) = f u := by simp) :
    f t = f s := by
  by_cases hi : i = .brk
  · subst hi
    cases h
    exact halt
  · obtain ⟨u, hu, rfl | ⟨c, rfl⟩⟩ := exec_keeps hi body h
    · exact (clear u).trans (hu.trans start)
    · exact (fault u c).trans (hu.trans start)

theorem exec_mem (h : exec i s = .next t) (hb : i.base ∉ [Base.stz, .str, .sta]) : t.mem = s.mem :=
  exec_field State.mem h (keeps_field (mem := fun hm => absurd hm hb))

theorem exec_dev (h : exec i s = .next t) (hb : i.base ≠ .deo) : t.dev = s.dev :=
  exec_field State.dev h (keeps_field (write := fun hw => absurd hw hb))

theorem exec_out (h : exec i s = .next t) (hb : i.base ≠ .deo) : t.out = s.out :=
  exec_field State.out h (keeps_field (write := fun hw => absurd hw hb))

theorem exec_hostState (h : exec i s = .next t) (hb : i.base ∉ [Base.dei, .deo]) :
    t.hostState = s.hostState :=
  exec_field State.hostState h
    (keeps_field (read := fun hr => absurd (by simp [hr]) hb) (write := fun hw => absurd (by simp [hw]) hb))

theorem exec_binding (h : exec i s = .next t) : t.binding = s.binding := exec_field State.binding h keeps_field

theorem exec_pending (h : exec i s = .next t) : t.pending = s.pending := exec_field State.pending h keeps_field

/-- The companion stack, but for its keep mark. -/
theorem exec_dst (h : exec i s = .next t) (hb : i.base ∉ [Base.jsr, .sth]) :
    (t.stack i.mode.dst).leaveKeep = (s.stack i.mode.dst).leaveKeep :=
  exec_field (fun u => (u.stack i.mode.dst).leaveKeep) h (keeps_field (dst := fun hd => absurd hd hb))

theorem exec_pc (hi : i ≠ .brk) (h : exec i s = .next t) (hb : i.base ∉ [Base.lit, .jmp, .jcn, .jsr]) :
    t.pc = s.pc + 1 := by
  obtain ⟨u, hu, rfl | ⟨c, rfl⟩⟩ := exec_keeps hi (keeps_pc hb) h
  · exact hu.trans (s.begin_pc _)
  · exact hu.trans (s.begin_pc _)

/-- An instruction but BRK leaves the status alone or faults. -/
theorem exec_status (hi : i ≠ .brk) (h : exec i s = .next t) :
    t.status = s.status ∨ ∃ c, t.status = .faulted c := by
  obtain ⟨u, hu, rfl | ⟨c, rfl⟩⟩ := exec_keeps hi (keeps_field (f := State.status)) h
  · exact .inl (hu.trans (s.begin_status _))
  · exact .inr ⟨c, rfl⟩

/-- No stack is in keep mode after an instruction of a ready state, BRK or not. -/
theorem State.Ready.exec_keep_off (ready : s.Ready) (h : exec i s = .next t) (id : StackId) :
    (t.stack id).keep = false := by
  by_cases hi : i = .brk
  · subst hi
    cases h
    exact ready.keep id
  · obtain ⟨kw, kr⟩ := Machine.exec_keep_off hi h
    cases id
    · exact kw
    · exact kr

/-- Only BRK halts a running core (40_step_break_literal.md R94). -/
theorem exec_halted_iff (running : s.status = .running) (h : exec i s = .next t) :
    t.status = .halted ↔ i = .brk := by
  constructor
  · intro halted
    by_contra hi
    rcases exec_status hi h with same | ⟨c, faulted⟩
    · simp [running, halted] at same
    · simp [halted] at faulted
  · rintro rfl
    cases h
    rfl

/-- The console output grows over every instruction. -/
theorem exec_out_grows (h : exec i s = .next t) : s.out <+: t.out := by
  by_cases hi : i = .brk
  · subst hi; cases h; exact List.prefix_rfl
  · have body : Keeps (fun s t => s.out <+: t.out) (bodyOf i.literal i.base i.mode) :=
      keeps_bodyOf (fun _ => List.prefix_rfl) (fun _ _ _ => List.IsPrefix.trans)
        (.of_setStack (by simp)) (fun _ => .of_setStack (by simp)) (by simp) (by simp) (by simp)
        fun _ s a v => s.devWrite_out a v
    obtain ⟨u, hu, rfl | ⟨c, rfl⟩⟩ := exec_keeps hi body h <;> simpa using hu

/-- Keep mode stays on, and the content of the stack `id` only grows. -/
def KeptOnTop (id : StackId) (s t : State) : Prop :=
  (s.stack id).keep = true → (t.stack id).keep = true ∧ s.content id <+: t.content id

theorem KeptOnTop.of_stack_eq {id : StackId} {s t : State} (h : t.stack id = s.stack id) : KeptOnTop id s t :=
  fun hk => by rw [State.content, State.content, h]; exact ⟨hk, List.prefix_rfl⟩

theorem KeptOnTop.trans {id : StackId} {s t u : State} (h1 : KeptOnTop id s t) (h2 : KeptOnTop id t u) :
    KeptOnTop id s u := fun hk =>
  have ⟨ht, p⟩ := h1 hk
  have ⟨hu, q⟩ := h2 ht
  ⟨hu, p.trans q⟩

/-- In keep mode a pop leaves the content, and a push adds on top of it (10_state.md R15). -/
theorem stackSteps_keptOnTop (id : StackId) : StackSteps (KeptOnTop id) id :=
  .of_drop_grow
    (fun s n hk => by
      rw [State.content, State.content, State.setStack_stack_same, Stack.drop_of_keep hk]
      exact ⟨hk, List.prefix_rfl⟩)
    fun s l _ hk => by
      rw [State.content, State.content, State.setStack_stack_same, Stack.grow_content]
      exact ⟨hk, List.prefix_append _ _⟩

theorem bodyOf_keptOnTop (lit : Word) (b : Base) (m : Mode) : Keeps (KeptOnTop m.src) (bodyOf lit b m) :=
  keeps_bodyOf (fun _ => .of_stack_eq rfl) (fun _ _ _ => KeptOnTop.trans) (stackSteps_keptOnTop _)
    (fun _ => .of_setStack fun s S => .of_stack_eq (m.setStack_dst_src s S))
    (fun _ s v => .of_stack_eq (s.setPc_stack v _)) (fun _ s a v => .of_stack_eq (s.memWrite8_stack a v _))
    (fun _ s a => .of_stack_eq (s.devRead_stack a _)) fun _ s a v => .of_stack_eq (s.devWrite_stack a v _)

end

end Sys2Proof.Machine
end

section
/-! PROOFS. The statements about what instructions and steps change (spec/10_state.md R15, R20, R30 to R32). -/

namespace Sys2Proof.Machine

/-- Settles O28: inside the body the active stack is in keep mode, where a pop leaves its content. -/
theorem keepModeOnlyAddsOnTop : Obligations.KeepModeOnlyAddsOnTop := by
  intro i s t _ hk h
  have hi : i ≠ .brk := by rintro rfl; exact absurd hk (by decide)
  obtain ⟨u, hu, ends⟩ := exec_keeps hi (bodyOf_keptOnTop _ _ _) h
  have entered : (s.begin i.mode).stack i.mode.src = (s.stack i.mode.src).enterKeep := by simp [hk]
  have grown := (hu (by rw [entered]; rfl)).2
  rw [State.content, entered] at grown
  have same : t.content i.mode.src = u.content i.mode.src := by
    rcases ends with rfl | ⟨c, rfl⟩
    · rw [State.content, State.clearKeep_stack]; rfl
    · rw [State.content, State.takeFault_stack]; rfl
  rw [same]
  exact grown

/-- Settles O9: the end of an instruction, completed or faulted, is after the end of keep mode. -/
theorem keepModeBeginsAndEndsWithTheInstruction : Obligations.KeepModeBeginsAndEndsWithTheInstruction :=
  ⟨fun s id => ⟨s.setStack_stack_same id _, fun _ hj => s.setStack_stack_other _ hj⟩, fun _ => rfl,
    fun _ _ => rfl, fun _ _ _ => exec_keep_off⟩

/-- Settles O27, clause by clause from the fields that the pieces of a body touch. -/
theorem whichInstructionsChangeWhat : Obligations.WhichInstructionsChangeWhat := by
  intro i s t ready h
  have off := ready.exec_keep_off h
  have dst (hb : i.base ∉ [Base.jsr, .sth]) : t.stack i.mode.dst = s.stack i.mode.dst := by
    have same := exec_dst h hb
    rwa [Stack.leaveKeep_of_not_keep (off _), Stack.leaveKeep_of_not_keep (ready.keep _)] at same
  exact ⟨exec_mem h, fun hb => ⟨exec_dev h hb, exec_out h hb⟩, exec_hostState h, dst,
    fun hi hb => exec_pc hi h hb, exec_halted_iff ready.1 h, exec_binding h, exec_pending h, off .wst,
    off .rst⟩

/-- Settles O26: only a device write moves the console output, and it adds to it. -/
theorem consoleOutputOnlyGrows : Obligations.ConsoleOutputOnlyGrows := by
  intro s t h notDue
  cases step_next h with
  | reset _ due => simp [notDue] at due
  | halts => simp
  | runs _ _ _ run => simpa using exec_out_grows run
  | idle => exact List.prefix_rfl
  | loadImage => rw [State.loadBytes_frame]; exact List.prefix_rfl
  | run => exact List.prefix_rfl
  | quietEvent => rw [State.writePayload_frame]; exact List.prefix_rfl
  | event => rw [State.writePayload_frame]; exact List.prefix_rfl

/-- Settles O23: an empty memory reads 0x00 everywhere. -/
theorem resetValues : Obligations.ResetValues :=
  ⟨rfl, rfl, rfl, rfl, Memory.read_nil, Memory.read_nil, rfl, rfl⟩

end Sys2Proof.Machine
end

section
/-! PROOFS. The program counter after each instruction (spec/10_state.md R22) and the moves of the status
(R23). -/

namespace Sys2Proof.Machine

/-! ### A body raises before it writes the program counter -/

theorem Keeps.of_ok {α : Type} {R : State → State → Prop} {x : Body α} {s t : State} {a : α} (k : Keeps R x)
    (h : x s = .ok a t) : R s t := by
  have := k s
  rwa [h] at this

theorem Keeps.of_error {α : Type} {R : State → State → Prop} {x : Body α} {s t : State} {c : Cause}
    (k : Keeps R x) (h : x s = .error c t) : R s t := by
  have := k s
  rwa [h] at this

/-- Where the piece `x` raises, the program counter is as before it. -/
def RaisesInPlace {α : Type} (x : Body α) : Prop := ∀ s c t, x s = .error c t → t.pc = s.pc

namespace RaisesInPlace

variable {α β : Type}

theorem of_keeps {x : Body α} (h : Keeps (fun s t => t.pc = s.pc) x) : RaisesInPlace x :=
  fun _ _ _ e => h.of_error e

theorem bind {x : Body α} {f : α → Body β} (hx : Keeps (fun s t => t.pc = s.pc) x)
    (hf : ∀ a, RaisesInPlace (f a)) : RaisesInPlace (x >>= f) := by
  intro s c t e
  cases ex : x s with
  | ok a u =>
    rw [bind_ok ex] at e
    exact (hf a u c t e).trans (hx.of_ok ex)
  | error d u =>
    rw [bind_error ex] at e
    cases e
    exact hx.of_error ex

theorem writePc (v : Word) : RaisesInPlace (writePc v) := fun _ _ _ e => nomatch e

theorem jump (m : Mode) (a : Word) : RaisesInPlace (jump m a) := fun _ _ _ e => nomatch e

/-- The four bodies that write the program counter do so last. -/
theorem bodyOf (lit : Word) (b : Base) (m : Mode) : RaisesInPlace (bodyOf lit b m) := by
  by_cases hb : b ∈ [Base.lit, .jmp, .jcn, .jsr]
  · have refl : ∀ s : State, s.pc = s.pc := fun _ => rfl
    have steps : ∀ id, StackSteps (fun s t => t.pc = s.pc) id := fun id => .of_setStack (by simp)
    have pop := (steps m.src).pop refl (fun _ _ _ h1 h2 => h2.trans h1) m
    have push := (steps m.src).push refl m
    simp only [List.mem_cons, List.not_mem_nil, or_false] at hb
    rcases hb with rfl | rfl | rfl | rfl
    case inl => exact .bind (push _) fun _ => .bind (.readPc refl) fun _ => writePc _
    case inr.inl => exact .bind pop fun _ => jump _ _
    case inr.inr.inl =>
      refine .bind pop fun _ => .bind (.pop8 refl (steps _).pop8) fun _ => ?_
      split
      · exact jump _ _
      · exact of_keeps (.pure refl _)
    case inr.inr.inr =>
      exact .bind pop fun _ => .bind (.readPc refl) fun _ => .bind (.push16 refl (steps _).push16 _) fun _ =>
        jump _ _
  · exact of_keeps (keeps_pc hb)

end RaisesInPlace

/-! ### Where a body that completes leaves the program counter -/

/-- A sequence that completes is the completion of its second part after that of its first. -/
theorem bind_eq_ok {α β : Type} {x : Body α} {f : α → Body β} {s u : State} {b : β}
    (h : (x >>= f) s = .ok b u) : ∃ a t, x s = .ok a t ∧ f a t = .ok b u := by
  cases e : x s with
  | ok a t => exact ⟨a, t, rfl, (bind_ok e).symm.trans h⟩
  | error c t => exact nomatch (bind_error e).symm.trans h

theorem pc_of_push {m : Mode} {id : StackId} {v : Word} {s t : State} {a : Unit} (h : push m id v s = .ok a t) :
    t.pc = s.pc := by
  have steps : StackSteps (fun s t => t.pc = s.pc) id := .of_setStack (by simp)
  exact (steps.push (fun _ => rfl) m v).of_ok h

/-- An instruction that leaves a running core running completed its body. -/
theorem exec_completes {i : Instr} {s t : State} (hi : i ≠ .brk) (h : exec i s = .next t)
    (running : t.status = .running) :
    ∃ u, bodyOf i.literal i.base i.mode (s.begin i.mode) = .ok () u ∧ t.pc = u.pc := by
  rcases exec_next hi h with ⟨u, e, rfl⟩ | ⟨c, u, -, rfl⟩
  · exact ⟨u, e, rfl⟩
  · exact nomatch running

/-- A fault leaves the program counter past the opcode byte (60_exceptions.md R184). -/
theorem exec_faulted_pc {i : Instr} {s t : State} {c : Cause} (running : s.status = .running)
    (h : exec i s = .next t) (faulted : t.status = .faulted c) : t.pc = s.pc + 1 := by
  have hi : i ≠ .brk := by
    rintro rfl
    cases h
    exact nomatch faulted
  rcases exec_next hi h with ⟨u, e, rfl⟩ | ⟨d, u, e, rfl⟩
  · have same : u.status = (s.begin i.mode).status := (keeps_field (f := State.status)).of_ok e
    exact nomatch (faulted.symm.trans same).trans ((s.begin_status _).trans running)
  · exact (RaisesInPlace.bodyOf _ _ _ _ _ _ e).trans (s.begin_pc _)

section

variable {m : Mode} {s u : State} {base : List Byte} {a : Word}

/-- The start of the body on a content that is known. -/
theorem Inside.start_of_content (ready : s.Ready) {content : List Byte} (hc : s.content m.src = content) :
    Inside m s (s.begin m) content (m.left content []) := hc ▸ Inside.start ready m

theorem bodyLit_pc {v : Word} (h : bodyLit v m (s.begin m) = .ok () u) :
    u.pc = s.pc + (if m.short then 3 else 2) := by
  obtain ⟨_, t, e, h⟩ := bind_eq_ok h
  cases h
  show t.pc + BitVec.ofNat 16 m.width = _
  rw [pc_of_push e, State.begin_pc, Mode.width, BitVec.add_assoc]
  split <;> rfl

/-- Where a jump goes from inside a body (43_control_flow.md R120). -/
theorem Inside.jump_pc {t : State} {view content : List Byte} (at_ : Inside m s t view content)
    (h : jump m a t = .ok () u) : u.pc = landing m s.pc a := by
  cases h
  show jumpTarget m t.pc a = _
  rw [at_.pc, jumpTarget_succ]

theorem bodyJmp_pc (ready : s.Ready) (fits : m.Fits a) (hc : s.content m.src = base ++ m.bytes a)
    (h : bodyJmp m (s.begin m) = .ok () u) : u.pc = landing m s.pc a := by
  obtain ⟨t, e, popped⟩ := (Inside.start_of_content ready hc).pop fits
  exact popped.jump_pc ((bind_ok e).symm.trans h)

theorem bodyJsr_pc (ready : s.Ready) (fits : m.Fits a) (hc : s.content m.src = base ++ m.bytes a)
    (h : bodyJsr m (s.begin m) = .ok () u) : u.pc = landing m s.pc a := by
  obtain ⟨t, e, popped⟩ := (Inside.start_of_content ready hc).pop fits
  have h := (bind_ok e).symm.trans h
  rw [readPc_bind] at h
  obtain ⟨_, t', e', h⟩ := bind_eq_ok h
  cases h
  show jumpTarget m t'.pc a = _
  rw [pc_of_push (m := ⟨true, m.ret, m.keep⟩) e', popped.pc, jumpTarget_succ]

theorem bodyJcn_pc {c : Byte} (ready : s.Ready) (fits : m.Fits a)
    (hc : s.content m.src = base ++ (c :: m.bytes a)) (h : bodyJcn m (s.begin m) = .ok () u) :
    u.pc = if c = 0 then s.pc + 1 else landing m s.pc a := by
  obtain ⟨t, e, popped⟩ :=
    (Inside.start_of_content ready (hc.trans (List.append_cons base c (m.bytes a)))).pop fits
  obtain ⟨t', e', both⟩ := popped.pop8
  have h := (bind_ok e').symm.trans ((bind_ok e).symm.trans h)
  by_cases hz : c = 0
  · subst hz
    cases h
    rw [if_pos rfl]
    exact both.pc
  · rw [if_pos hz] at h
    rw [if_neg hz]
    exact both.jump_pc h

end

/-- A step at address 0 halts there (40_step_break_literal.md R90). -/
theorem step_pc_zero {s t : State} (running : s.status = .running) (notDue : s.resetDue = false)
    (zero : s.pc = 0) (h : step s = .next t) : t.pc = s.pc := by
  rw [step_running running notDue, if_pos (by simp [State.haltTest, zero])] at h
  cases h
  simp

/-- Settles O29: a body that does not write the program counter leaves it past the opcode byte; the four others
write it last, after everything that can fault. -/
theorem programCounterAfterEachInstruction : Obligations.ProgramCounterAfterEachInstruction := by
  refine ⟨fun s t => step_pc_zero, fun i s t ready h =>
    ⟨?_, fun c => exec_faulted_pc ready.1 h, fun running => ?_⟩⟩
  · rintro rfl
    cases h
    rfl
  · have hi : i ≠ .brk := by
      rintro rfl
      cases h
      exact nomatch running
    obtain ⟨u, e, pc⟩ := exec_completes hi h running
    rw [pc]
    refine ⟨fun hb => ?_, fun hb => pc ▸ exec_pc hi h hb, fun hb base a fits hc => ?_,
      fun hb base c a fits hc => ?_⟩
    · rw [hb] at e
      exact bodyLit_pc e
    · rcases hb with hb | hb <;> rw [hb] at e
      · exact bodyJmp_pc ready fits hc e
      · exact bodyJsr_pc ready fits hc e
    · rw [hb] at e
      exact bodyJcn_pc ready fits hc e

/-! ### The moves of the status -/

/-- The opcode byte of an instruction made from fields is their encoding (30_encoding.md R72). -/
theorem opcode_ofFields (b : Base) (m : Mode) (lit8 : Byte) (lit16 : Word) :
    (Instr.ofFields b m lit8 lit16).opcode = encodeFields b m := by
  obtain ⟨sh, r, k⟩ := m
  cases b <;> cases sh <;> cases r <;> cases k <;> rfl

theorem encodeFields_decodeFields : ∀ op : Byte, encodeFields (decodeFields op).1 (decodeFields op).2 = op := by
  decide

/-- The instruction fetched has the opcode byte at the program counter (40_step_break_literal.md R91). -/
theorem State.fetch_opcode (s : State) : s.fetch.opcode = s.memRead8 s.pc :=
  (opcode_ofFields _ _ _ _).trans (encodeFields_decodeFields _)

/-- Only the byte 0x00 is BRK. -/
theorem State.fetch_ne_brk {s : State} (h : s.memRead8 s.pc ≠ 0) : s.fetch ≠ .brk := fun e =>
  h (s.fetch_opcode.symm.trans (congrArg Instr.opcode e))

theorem State.haltTest_iff (s : State) : s.haltTest = true ↔ s.pc = 0 ∨ s.memRead8 s.pc = 0 := by
  simp [State.haltTest]

section

variable {s t : State}

theorem running_halts_iff (h : step s = .next t) (running : s.status = .running) :
    t.status = .halted ↔ s.resetDue ∨ s.pc = 0 ∨ s.memRead8 s.pc = 0 := by
  rw [← State.haltTest_iff]
  cases step_next h with
  | reset _ due => exact ⟨fun _ => .inl due, fun _ => rfl⟩
  | halts _ _ test => exact ⟨fun _ => .inr test, fun _ => rfl⟩
  | runs due _ test run =>
    have not_brk : s.fetch ≠ .brk := State.fetch_ne_brk fun zero => by
      rw [s.haltTest_iff.2 (.inr zero)] at test
      cases test
    simp [exec_halted_iff (s.letPass_status.trans running) run, not_brk, due, test]
  | idle _ status | loadImage _ status | run _ status | quietEvent _ status | event _ status =>
    exact nomatch running.symm.trans status

theorem reset_halts (h : step s = .next t) (due : s.resetDue = true) : t.status = .halted := by
  cases step_next h with
  | reset => rfl
  | halts notDue | runs notDue | idle notDue | loadImage notDue | run notDue | quietEvent notDue | event notDue =>
    exact nomatch due.symm.trans notDue

theorem halted_moves (h : step s = .next t) (halted : s.status = .halted) :
    t.status = .halted ∨ t.status = .running ∧
      ((∃ a rest, s.pending = .run a :: rest ∧ t.pc = a) ∨
        ∃ d payload rest, s.pending = .injectEvent d payload :: rest ∧ t.pc ≠ 0) := by
  cases step_next h with
  | reset => exact .inl rfl
  | halts _ running | runs _ running => exact nomatch running.symm.trans halted
  | idle => exact .inl halted
  | loadImage => rw [State.loadBytes_frame]; exact .inl halted
  | run _ _ pending => exact .inr ⟨rfl, .inl ⟨_, _, pending, rfl⟩⟩
  | quietEvent => rw [State.writePayload_frame]; exact .inl halted
  | event _ _ pending nonzero => exact .inr ⟨rfl, .inr ⟨_, _, _, pending, nonzero⟩⟩

theorem faulted_moves {c : Cause} (h : step s = .next t) (faulted : s.status = .faulted c) :
    t.status = .halted ∧ ∃ n rest, s.pending = .reset n :: rest := by
  cases step_next h with
  | reset pending => exact ⟨rfl, _, _, pending⟩
  | halts _ status | runs _ status | idle _ status | loadImage _ status | run _ status | quietEvent _ status
  | event _ status => exact nomatch faulted.symm.trans status

end

/-- Settles O31, clause by clause from the next states of a step. -/
theorem statusMovesAsTheTableSays : Obligations.StatusMovesAsTheTableSays := by
  refine fun s t h => ⟨running_halts_iff h, reset_halts h, fun halted c faulted => ?_, fun halted running => ?_,
    fun c => faulted_moves h⟩
  · rcases halted_moves h halted with e | ⟨e, -⟩ <;> exact nomatch e.symm.trans faulted
  · rcases halted_moves h halted with e | ⟨-, started⟩
    · exact nomatch e.symm.trans running
    · exact started

end Sys2Proof.Machine
end

section
/-! PROOFS. Linear memory and the device bus: what a read gives after each kind of write, and what each access
leaves alone (spec/20_memory.md R41 to R56). -/

namespace Sys2Proof.Machine

/-! ### Words in linear memory -/

/-- A word is read big-endian (20_memory.md R42). -/
theorem State.memRead16_toNat (s : State) (a : Word) :
    (s.memRead16 a).toNat = 256 * (s.memRead8 a).toNat + (s.memRead8 (a + 1)).toNat := by
  rw [State.memRead16, wordOf_toNat, Nat.mul_comm]

/-- The bytes of memory after a word is written: the two addresses differ, so neither byte hides the other. -/
theorem State.memRead8_memWrite16 (s : State) (a v x : Word) :
    (s.memWrite16 a v).memRead8 x = if x = a then hiByte v else if x = a + 1 then loByte v else s.memRead8 x := by
  rw [State.memWrite16, State.memRead8_memWrite8, State.memRead8_memWrite8]
  by_cases h : x = a
  · subst h
    rw [if_neg (word_succ_ne x).symm, if_pos rfl, if_pos rfl]
  · rw [if_neg h, if_neg h]

/-- The word written is the word read (20_memory.md R45). -/
theorem State.memRead16_memWrite16 (s : State) (a v : Word) : (s.memWrite16 a v).memRead16 a = v := by
  rw [State.memRead16, State.memRead8_memWrite16, State.memRead8_memWrite16, if_pos rfl,
    if_neg (word_succ_ne a), if_pos rfl, wordOf_hiByte_loByte]

/-- Settles O10: by the bytes of a word, and the read after a byte write. -/
theorem wordReadsAreBigEndianAndByteWritesAreLocal : Obligations.WordReadsAreBigEndianAndByteWritesAreLocal :=
  fun s a b => ⟨s.memRead16_toNat a, s.memRead16_toNat 0xFFFF, fun x => s.memRead8_memWrite8 a x b, rfl⟩

/-- Settles O11: by the bytes of memory after a word is written. -/
theorem wordWritesAreBigEndianAndWrap : Obligations.WordWritesAreBigEndianAndWrap :=
  fun s a v => ⟨s.memRead8_memWrite16 a v, s.memRead16_memWrite16 a v, rfl⟩

/-! ### The device bus -/

/-- Clearing the low four bits of a device address leaves the first address of its slot (20_memory.md R54). -/
theorem slotStart_eq : ∀ a : Byte, a &&& 0xF0#8 = BitVec.ofNat 8 (16 * (a.toNat / 16)) := by decide

/-- Settles O12: by the first address of a slot, and the bytes of a word. -/
theorem deviceVectorIsTheSlotsFirstWord : Obligations.DeviceVectorIsTheSlotsFirstWord := by
  intro s a
  rw [State.devVector, wordOf_toNat, slotStart_eq, BitVec.ofNat_add, Nat.mul_comm]
  rfl

/-- A device write stores its byte, whatever the host (20_memory.md R53). -/
@[simp] theorem State.devWrite_dev (s : State) (a v : Byte) :
    (s.devWrite a v).dev = Memory.write s.dev a.toNat v := by rw [State.devWrite_frame]

/-- The bytes of the device surface after a device write: no hook touches them (decision D14). -/
theorem State.devByte_devWrite (s : State) (a v x : Byte) :
    (s.devWrite a v).devByte x = if x = a then v else s.devByte x := by
  rw [← s.devByte_setDevByte a x v, State.devByte, State.devWrite_dev]
  rfl

/-- The write hook of the reference host (20_memory.md R55). -/
theorem State.onWrite_reference {s : State} (h : s.binding = .reference) (a v : Byte) :
    s.onWrite a v = if a = consoleOut then { s with out := s.out ++ [v] } else s := by
  simp only [State.onWrite, h]

/-- The write hook of another host (20_memory.md R55). -/
theorem State.onWrite_other {s : State} (h : s.binding = .other) (a v : Byte) :
    s.onWrite a v = { s with hostState := Config.hostWrite s.hostState s.dev a v } := by
  simp only [State.onWrite, h]

/-- A device write with the reference host: the byte goes to the console output from CONSOLE_OUT, and nowhere
else from another address (20_memory.md R55, R56). -/
theorem State.devWrite_reference {s : State} (h : s.binding = .reference) (a v : Byte) :
    s.devWrite a v = { s with dev := Memory.write s.dev a.toNat v,
                              out := if a = consoleOut then s.out ++ [v] else s.out } := by
  rw [State.devWrite, State.onWrite_reference (s := s.setDevByte a v) h]
  by_cases ha : a = consoleOut
  · rw [if_pos ha, if_pos ha]; rfl
  · rw [if_neg ha, if_neg ha]; rfl

/-- A device write with another host: the hook sees the surface with the byte already stored (decision D8). -/
theorem State.devWrite_other {s : State} (h : s.binding = .other) (a v : Byte) :
    s.devWrite a v = { s with dev := Memory.write s.dev a.toNat v,
                              hostState := Config.hostWrite s.hostState (Memory.write s.dev a.toNat v) a v } := by
  rw [State.devWrite, State.onWrite_other (s := s.setDevByte a v) h]
  rfl

/-- Settles O13: by the bytes of the device surface after a write, and the write with each host. -/
theorem deviceWriteStoresThenCallsTheHook : Obligations.DeviceWriteStoresThenCallsTheHook := by
  intro s a v
  refine ⟨s.devByte_devWrite a v, fun h => ?_, fun h => ?_⟩
  · rw [State.devWrite_dev]
    exact State.devWrite_reference h a v
  · rw [State.devWrite_dev]
    exact State.devWrite_other h a v

/-- Settles O14: by the read with each host; the reference host reads back the byte its write stored. -/
theorem deviceReadIsTheHooks : Obligations.DeviceReadIsTheHooks := by
  intro s a v
  refine ⟨fun h => ⟨State.devRead_reference h a, ?_⟩, fun h => ?_⟩
  · rw [State.devRead_reference ((State.devWrite_binding s a v).trans h), State.devByte_devWrite, if_pos rfl]
  · rw [State.devRead_other h]
    exact ⟨rfl, rfl⟩

end Sys2Proof.Machine
end

section
/-! PROOFS. Lists of bytes in memory: an image that is loaded (spec/20_memory.md R48) and an instruction that is
stored where the next step fetches it (R59). -/

namespace Sys2Proof.Machine

/-! ### Bytes written one after the other -/

/-- Where an address stands in a list of bytes from `a + 1` on, by where it stands from `a` on. -/
theorem word_offset_succ {a x : Word} (h : x ≠ a) : (x - a).toNat = (x - (a + 1)).toNat + 1 := by
  have : x.toNat ≠ a.toNat := fun e => h (BitVec.eq_of_toNat_eq e)
  bv_omega

/-- The address before a list of bytes comes after all others, modulo 65536. -/
theorem word_offset_before (a : Word) : (a - (a + 1)).toNat = 65535 := by bv_omega

/-- A read after a list of writes from `a` on that does not come round to `a` again: the byte of the list at
the address, the old byte past its end. -/
theorem State.memRead8_writeBytes (s : State) (a x : Word) (l : List Byte) (fits : l.length ≤ 65536) :
    (s.writeBytes a l).memRead8 x = (l[(x - a).toNat]?).getD (s.memRead8 x) := by
  induction l generalizing s a with
  | nil => rfl
  | cons b l ih =>
    have shorter : l.length ≤ 65535 := Nat.le_of_succ_le_succ fits
    rw [State.writeBytes, ih _ _ (Nat.le_succ_of_le shorter), State.memRead8_memWrite8]
    by_cases h : x = a
    · subst h
      rw [word_offset_before, List.getElem?_eq_none shorter, if_pos rfl, BitVec.sub_self]
      rfl
    · rw [if_neg h, word_offset_succ h, List.getElem?_cons_succ]

/-- Loading an image is the same writes. -/
theorem State.loadBytes_eq_writeBytes (s : State) (a : Word) (l : List Byte) :
    s.loadBytes a l = s.writeBytes a l := by
  induction l generalizing s a with
  | nil => rfl
  | cons b l ih => exact ih _ _

section

variable (s : State) (a : Word) (l : List Byte)

@[simp] theorem State.writeBytes_pc : (s.writeBytes a l).pc = s.pc := by rw [State.writeBytes_frame]
@[simp] theorem State.writeBytes_status : (s.writeBytes a l).status = s.status := by rw [State.writeBytes_frame]
@[simp] theorem State.writeBytes_resetDue : (s.writeBytes a l).resetDue = s.resetDue := by
  rw [State.writeBytes_frame]; rfl

end

/-! ### An image -/

/-- The bytes of memory after an image that fits is loaded (20_memory.md R48). -/
theorem State.memRead8_loadImage (s : State) {img : List Byte} (fits : img.length ≤ imageMaxLength) (x : Word) :
    (s.loadBytes imageOrigin img).memRead8 x =
      if 0x0100 ≤ x.toNat then (img[x.toNat - 0x0100]?).getD (s.memRead8 x) else s.memRead8 x := by
  have fits : img.length ≤ 65280 := fits
  rw [State.loadBytes_eq_writeBytes, State.memRead8_writeBytes _ _ _ _ (by omega), imageOrigin]
  split <;> rename_i h
  · rw [show (x - 0x0100).toNat = x.toNat - 0x0100 by bv_omega]
  · have past : img.length ≤ (x - 0x0100).toNat := by bv_omega
    rw [List.getElem?_eq_none past]
    rfl

theorem HostCommand.loadImage_wf (img : List Byte) :
    (HostCommand.loadImage img).wf = true ↔ img.length ≤ imageMaxLength := decide_eq_true_iff

theorem transact_loadImage {s : State} (halted : s.status = .halted) (img : List Byte) :
    transact (.loadImage img) s =
      if img.length ≤ imageMaxLength then .next (s.loadBytes imageOrigin img)
      else .refused (.imageTooLong img.length) := by
  rw [transact, if_neg (not_not_intro halted)]
  simp only [HostCommand.loadImage_wf]

/-- Settles O33: by the answer of the transaction, and the bytes of memory after an image is loaded. -/
theorem loadImagePutsTheImageAtItsOrigin : Obligations.LoadImagePutsTheImageAtItsOrigin := by
  refine ⟨fun s img notHalted => if_pos notHalted, fun s img halted => ⟨fun fits => ?_, fun long => ?_⟩⟩
  · exact ⟨_, (transact_loadImage halted img).trans (if_pos fits), s.memRead8_loadImage fits,
      s.loadBytes_frame _ _⟩
  · exact (transact_loadImage halted img).trans (if_neg (Nat.not_le.2 long))

/-! ### A stored instruction -/

/-- The opcode byte of an instruction and the bytes of its literal give it back, whatever stands where it has
no literal (30_encoding.md R72, R75). -/
theorem decodeAt_encode (i : Instr) (x y : Byte) :
    decodeAt i.opcode (i.literalBytes[0]?.getD x) (i.literalBytes[1]?.getD y) = i := by
  cases i
  case lit2 imm =>
    show decodeAt 0x20 (hiByte imm) (loByte imm) = _
    exact congrArg Instr.lit2 (wordOf_hiByte_loByte imm)
  case lit2r imm =>
    show decodeAt 0x60 (hiByte imm) (loByte imm) = _
    exact congrArg Instr.lit2r (wordOf_hiByte_loByte imm)
  case lit2k imm =>
    show decodeAt 0xA0 (hiByte imm) (loByte imm) = _
    exact congrArg Instr.lit2k (wordOf_hiByte_loByte imm)
  case lit2kr imm =>
    show decodeAt 0xE0 (hiByte imm) (loByte imm) = _
    exact congrArg Instr.lit2kr (wordOf_hiByte_loByte imm)
  case litr imm => exact (rfl : decodeAt 0x40 imm y = _)
  case litk imm => exact (rfl : decodeAt 0x80 imm y = _)
  case litkr imm => exact (rfl : decodeAt 0xC0 imm y = _)
  all_goals rfl

theorem literalBytes_length_le (i : Instr) : i.literalBytes.length ≤ 2 := by
  unfold Instr.literalBytes
  split <;> simp

/-- The fetch sees the instruction stored last at the program counter (20_memory.md R59). -/
theorem State.fetch_writeBytes_encode (s : State) (i : Instr) : (s.writeBytes s.pc (encode i)).fetch = i := by
  have fits : (encode i).length ≤ 65536 := by
    have := literalBytes_length_le i
    simp only [encode, List.length_cons]
    omega
  have offset (n : Word) : s.pc + n - s.pc = n := add_sub_cancel_left _ _
  rw [State.fetch, State.writeBytes_pc]
  simp only [State.memRead8_writeBytes _ _ _ _ fits, BitVec.sub_self, offset]
  exact decodeAt_encode i _ _

/-- The byte 0x00 is fetched as BRK. -/
theorem State.fetch_eq_brk {s : State} (h : s.memRead8 s.pc = 0) : s.fetch = .brk := by
  rw [State.fetch, h]
  rfl

/-- Off address 0 a step of a running core is the instruction fetched: where the halt test finds a byte 0x00,
that is BRK, which halts too (40_step_break_literal.md R90, R94). -/
theorem step_eq_exec_fetch {s : State} (running : s.status = .running) (nonzero : s.pc ≠ 0)
    (notDue : s.resetDue = false) : step s = exec s.fetch s.letPass := by
  rw [step_running running notDue]
  split <;> rename_i test
  · have zero : s.memRead8 s.pc = 0 := (s.haltTest_iff.1 test).resolve_left nonzero
    rw [State.fetch_eq_brk zero]
    rfl
  · rfl

/-- Settles O15: by the step as the instruction fetched, and what the fetch sees of a stored instruction. -/
theorem storedInstructionIsTheOneFetched : Obligations.StoredInstructionIsTheOneFetched := by
  intro s i running nonzero notDue
  rw [step_eq_exec_fetch (by simpa using running) (by simpa using nonzero) (by simpa using notDue),
    State.fetch_writeBytes_encode]

end Sys2Proof.Machine
end

section
/-! PROOFS. The encoding (spec/30_encoding.md R70 to R79): the fields of an opcode byte, the bytes of a literal, and
the decoder as one equation, from which both directions of the round trip and the lengths follow. -/

namespace Sys2Proof.Machine

/-! ### The fields of an opcode byte -/

theorem base_number_lt (b : Base) : b.number < 32 := by cases b <;> decide

@[simp] theorem baseOf_number (b : Base) : baseOf b.number = b := by cases b <;> rfl

theorem number_baseOf : ∀ {n : Nat}, n < 32 → (baseOf n).number = n := by decide

theorem baseNumber_eq (op : Byte) : baseNumber op = op.toNat % 32 :=
  (BitVec.toNat_and op 0x1F#8).trans (Nat.and_two_pow_sub_one_eq_mod op.toNat 5)

/-- The number of the base operation is the low five bits (30_encoding.md R71). -/
theorem number_decodeFields (op : Byte) : (decodeFields op).1.number = op.toNat % 32 := by
  rw [decodeFields, baseNumber_eq, number_baseOf (Nat.mod_lt _ (by decide))]

theorem and_twoPow_ne_zero (op : Byte) {i : Nat} (bit : BitVec.twoPow 8 i ≠ 0) :
    (op &&& BitVec.twoPow 8 i != 0#8) = op.getLsbD i := by
  rw [BitVec.and_twoPow]
  cases op.getLsbD i
  case false => rfl
  case true => exact bne_iff_ne.2 bit

/-- The mode flags are bits 5, 6 and 7 (30_encoding.md R71). -/
theorem modeOf_eq (op : Byte) : modeOf op = ⟨op.getLsbD 5, op.getLsbD 6, op.getLsbD 7⟩ := by
  rw [← and_twoPow_ne_zero op (i := 5) (by decide), ← and_twoPow_ne_zero op (i := 6) (by decide),
    ← and_twoPow_ne_zero op (i := 7) (by decide)]
  rfl

/-- The sum of R72 fits a byte. -/
theorem encodeFields_toNat (b : Base) (m : Mode) :
    (encodeFields b m).toNat = b.number + 32 * m.short.toNat + 64 * m.ret.toNat + 128 * m.keep.toNat := by
  have := base_number_lt b
  have := m.short.toNat_le
  have := m.ret.toNat_le
  have := m.keep.toNat_le
  rw [encodeFields, BitVec.toNat_ofNat, Nat.mod_eq_of_lt (by omega)]

/-- A bit of a byte, as a digit of its number. -/
theorem getLsbD_eq_of_digit {op : Byte} {i : Nat} {c : Bool} (h : op.toNat / 2 ^ i % 2 = c.toNat) :
    op.getLsbD i = c := by
  rw [← BitVec.testBit_toNat, Nat.testBit_eq_decide_div_mod_eq, h]
  cases c <;> rfl

@[simp] theorem decodeFields_encodeFields (b : Base) (m : Mode) : decodeFields (encodeFields b m) = (b, m) := by
  have value := encodeFields_toNat b m
  have := base_number_lt b
  have := m.short.toNat_le
  have := m.ret.toNat_le
  have number : baseNumber (encodeFields b m) = b.number := by rw [baseNumber_eq]; omega
  have short : (encodeFields b m).getLsbD 5 = m.short := getLsbD_eq_of_digit (by omega)
  have ret : (encodeFields b m).getLsbD 6 = m.ret := getLsbD_eq_of_digit (by omega)
  have keep : (encodeFields b m).getLsbD 7 = m.keep := getLsbD_eq_of_digit (by omega)
  rw [decodeFields, number, baseOf_number, modeOf_eq, short, ret, keep]

/-- Settles O1: a byte is the sum of its fields, and each field is a digit of that sum. -/
theorem opcodeFieldsRoundTrip : Obligations.OpcodeFieldsRoundTrip :=
  ⟨fun op => ⟨number_decodeFields op, congrArg Mode.short (modeOf_eq op), congrArg Mode.ret (modeOf_eq op),
    congrArg Mode.keep (modeOf_eq op), encodeFields_decodeFields op⟩,
    fun b m => ⟨encodeFields_toNat b m, decodeFields_encodeFields b m⟩⟩

/-! ### The literal of an opcode byte -/

theorem literalLength_of_ne_lit {op : Byte} (h : (decodeFields op).1 ≠ .lit) : literalLength op = 0 := by
  rw [literalLength, if_neg h, ite_self]

theorem literalLength_le_two (op : Byte) : literalLength op ≤ 2 := by
  unfold literalLength
  split_ifs <;> decide

/-- The literal's length from the bits of the opcode byte (30_encoding.md R74). -/
theorem one_add_literalLength (op : Byte) : 1 + literalLength op =
    if op = 0 then 1 else if op.toNat % 32 = 0 then 2 + (op.getLsbD 5).toNat else 1 := by
  have lit : (decodeFields op).1 = .lit ↔ op.toNat % 32 = 0 := by
    rw [← number_decodeFields]
    exact ⟨congrArg Base.number, fun h => (baseOf_number _).symm.trans (congrArg baseOf h)⟩
  have short : (decodeFields op).2.short = op.getLsbD 5 := congrArg Mode.short (modeOf_eq op)
  by_cases zero : op = 0
  · subst zero; rfl
  · have nonzero : op ≠ 0#8 := zero
    rw [if_neg zero]
    simp only [literalLength, if_neg nonzero, lit, short]
    split
    · cases op.getLsbD 5 <;> rfl
    · rfl

theorem literalBytes_ofFields_of_ne_lit {b : Base} (h : b ≠ .lit) (m : Mode) (lit8 : Byte) (lit16 : Word) :
    (Instr.ofFields b m lit8 lit16).literalBytes = [] := by
  obtain ⟨sh, r, k⟩ := m
  cases b
  case lit => exact absurd rfl h
  all_goals cases sh <;> cases r <;> cases k <;> rfl

/-- LIT keeps as many of the two bytes as its length says; the byte 0x00, BRK, keeps neither. -/
theorem literalBytes_ofFields_lit (m : Mode) (b1 b2 : Byte) :
    (Instr.ofFields .lit m b1 (wordOf b1 b2)).literalBytes = [b1, b2].take (literalLength (encodeFields .lit m)) := by
  have word : [hiByte (wordOf b1 b2), loByte (wordOf b1 b2)] = [b1, b2] := by simp
  obtain ⟨short, ret, keep⟩ := m
  cases short
  case true => cases ret <;> cases keep <;> exact word
  case false => cases ret <;> cases keep <;> rfl

/-- An instruction keeps of the bytes after its opcode byte those of its literal (30_encoding.md R74, R75). -/
theorem literalBytes_decodeAt (op b1 b2 : Byte) :
    (decodeAt op b1 b2).literalBytes = [b1, b2].take (literalLength op) := by
  rw [decodeAt]
  by_cases lit : (decodeFields op).1 = .lit
  · rw [lit, literalBytes_ofFields_lit, ← lit, encodeFields_decodeFields]
  · rw [literalBytes_ofFields_of_ne_lit lit, literalLength_of_ne_lit lit, List.take_zero]

theorem opcode_decodeAt (op b1 b2 : Byte) : (decodeAt op b1 b2).opcode = op :=
  (opcode_ofFields _ _ _ _).trans (encodeFields_decodeFields _)

/-- The opcode byte of an instruction says how many bytes its literal has (30_encoding.md R74). -/
theorem literalBytes_length (i : Instr) : i.literalBytes.length = literalLength i.opcode := by
  have bytes := literalBytes_decodeAt i.opcode (i.literalBytes[0]?.getD 0) (i.literalBytes[1]?.getD 0)
  rw [decodeAt_encode] at bytes
  rw [bytes, List.length_take]
  exact min_eq_left (literalLength_le_two _)

/-! ### The decoder as one equation -/

/-- The instruction of an opcode byte and the bytes of its literal. -/
def instrOfBytes (op : Byte) (lit : List Byte) : Instr := decodeAt op (lit[0]?.getD 0) (lit[1]?.getD 0)

@[simp] theorem instrOfBytes_encode (i : Instr) : instrOfBytes i.opcode i.literalBytes = i := decodeAt_encode i 0 0

/-- An instruction made from an opcode byte and as many bytes as that asks for is encoded by those bytes. -/
theorem encode_instrOfBytes {op : Byte} {lit : List Byte} (h : lit.length = literalLength op) :
    encode (instrOfBytes op lit) = op :: lit := by
  have kept : [lit[0]?.getD 0, lit[1]?.getD 0].take lit.length = lit := by
    match lit, h.trans_le (literalLength_le_two op) with
    | [], _ => rfl
    | [_], _ => rfl
    | [_, _], _ => rfl
  rw [encode, instrOfBytes, opcode_decodeAt, literalBytes_decodeAt, ← h, kept]

/-- The decoder takes from the list the literal that the opcode byte asks for, and rejects the list only where
that many bytes are missing (30_encoding.md R74, R77). -/
theorem decode_cons (op : Byte) (tail : List Byte) : decode (op :: tail) =
    if literalLength op ≤ tail.length
    then .ok (instrOfBytes op (tail.take (literalLength op)), tail.drop (literalLength op))
    else .error .literalCutShort := by
  have small := literalLength_le_two op
  dsimp only [decode]
  generalize literalLength op = n at small
  match n, tail, small with
  | 0, _, _ => rfl
  | 1, [], _ => rfl
  | 1, _ :: _, _ => simp [instrOfBytes]
  | 2, [], _ => rfl
  | 2, [_], _ => rfl
  | 2, _ :: _ :: _, _ => simp [instrOfBytes]

/-- Settles O2: the literal's bytes are as many as the decoder takes, and with the opcode byte they give the
instruction back. -/
theorem decodeOfEncode : Obligations.DecodeOfEncode := by
  intro i rest _
  have len := literalBytes_length i
  have room : literalLength i.opcode ≤ (i.literalBytes ++ rest).length := by simp [len]
  rw [encode, List.cons_append, decode_cons, if_pos room, List.take_left' len, List.drop_left' len,
    instrOfBytes_encode]

/-- Settles O3: the instruction read is encoded by the bytes the decoder took, and the rest is what it left. -/
theorem encodeOfDecode : Obligations.EncodeOfDecode := by
  intro bytes rest i read
  cases bytes with
  | nil => cases read
  | cons op tail =>
    rw [decode_cons] at read
    split at read
    case isFalse => cases read
    case isTrue room =>
      cases read
      rw [encode_instrOfBytes (List.length_take_of_le room), List.cons_append, List.take_append_drop]

/-- Settles O4: by the length of the literal, and the one rejection of the decoder. -/
theorem lengthFromOpcodeByte : Obligations.LengthFromOpcodeByte := by
  refine ⟨fun i => ?_, fun op rest => ?_⟩
  · rw [← one_add_literalLength, encode, List.length_cons, literalBytes_length, Nat.add_comm]
  · rw [← one_add_literalLength, decode_cons]
    split
    case isTrue room => exact iff_of_false (fun ⟨_, e⟩ => nomatch e) (by omega)
    case isFalse short => exact iff_of_true ⟨_, rfl⟩ (by omega)

/-- Settles O5: the decoder, run on each byte list. -/
theorem sampleOpcodeBytes : Obligations.SampleOpcodeBytes :=
  ⟨⟨rfl, rfl, rfl, rfl⟩, ⟨rfl, rfl, rfl, rfl⟩, ⟨rfl, rfl, rfl, rfl⟩⟩

end Sys2Proof.Machine
end

section
/-! PROOFS. The step cycle, the halt and the literal (spec/40_step_break_literal.md R90 to R94). -/

namespace Sys2Proof.Machine

/-! ### The halt test and BRK -/

/-- Where the halt test succeeds, the step halts the core (40_step_break_literal.md R90). -/
theorem step_halts {s : State} (running : s.status = .running) (notDue : s.resetDue = false)
    (test : s.pc = 0 ∨ s.memRead8 s.pc = 0) : step s = .next s.letPass.halt :=
  (step_running running notDue).trans (if_pos (s.haltTest_iff.2 test))

/-- Settles O16: by the halt test of a step, and by when a step of a running core halts. -/
theorem haltTestHaltsAndChangesNothingElse : Obligations.HaltTestHaltsAndChangesNothingElse := by
  refine ⟨fun s running notDue test => ⟨step_halts running notDue test, fun noReset => ?_⟩,
    fun s t running notDue h halted => ?_⟩
  · rw [step_halts running notDue test, State.letPass_eq noReset]
    rfl
  · exact ((running_halts_iff h running).1 halted).resolve_left (by simp [notDue])

/-- Settles O17: BRK is the halt, and so is the step at its byte. -/
theorem brkHalts : Obligations.BrkHalts :=
  fun _ => ⟨rfl, fun running notDue zero => step_halts running notDue (.inr zero)⟩

/-! ### The instruction that a step runs -/

/-- What the decoder reads at the head of three bytes is the instruction of those bytes: it leaves only bytes
that the literal does not need (30_encoding.md R74, R75). -/
theorem eq_decodeAt_of_decode {op b1 b2 : Byte} {i : Instr} {rest : List Byte}
    (h : decode [op, b1, b2] = .ok (i, rest)) : i = decodeAt op b1 b2 := by
  have enough : literalLength op ≤ [b1, b2].length := literalLength_le_two op
  rw [decode_cons, if_pos enough, ← literalBytes_decodeAt op b1 b2] at h
  cases h
  simpa only [opcode_decodeAt] using instrOfBytes_encode (decodeAt op b1 b2)

/-- Settles O18: off address 0 a step is the instruction fetched, which is the one the decoder reads. -/
theorem stepRunsTheDecodedInstruction : Obligations.StepRunsTheDecodedInstruction := by
  intro s i rest running nonzero notDue h
  obtain rfl : i = s.fetch := eq_decodeAt_of_decode h
  have run := step_eq_exec_fetch running nonzero notDue
  exact ⟨run, s.letPass_frame, fun n later => State.letPass_reset,
    fun noReset => by rw [run, State.letPass_eq noReset]⟩

/-! ### LIT -/

section

variable {m : Mode} {s : State}

/-- A body begins with the whole content on the active stack, all of it in view. -/
theorem Inside.start_whole (ready : s.Ready) (m : Mode) :
    Inside m s (s.begin m) (s.content m.src) (s.content m.src) := by
  simpa [Mode.left] using Inside.start ready m

/-- LIT with room pushes its literal and moves past it (40_step_break_literal.md R93). -/
theorem runBody_bodyLit_of_room (ready : s.Ready) (v : Word)
    (room : (s.content m.src).length + m.width ≤ 255) :
    ∃ t, runBody m (bodyLit v) s = .next t ∧ SrcBecomes m s t (s.content m.src ++ m.bytes v) ∧
      t.pc = s.pc + 1 + BitVec.ofNat 16 m.width ∧ s.SameRest t := by
  obtain ⟨t, view, push, pushed⟩ := (Inside.start_whole ready m).push v room
  have body : bodyLit v m (s.begin m) = .ok () { t with pc := t.pc + BitVec.ofNat 16 m.width } :=
    bind_ok push
  refine ⟨_, runBody_ok body, ?_, congrArg (· + _) pushed.pc, pushed.sameRest⟩
  exact srcBecomes_congr rfl rfl (srcBecomes_clearKeep ready pushed.pic pushed.dst)

/-- LIT without room faults before it moves past its literal (40_step_break_literal.md R93). -/
theorem runBody_bodyLit_of_full (ready : s.Ready) (v : Word)
    (full : 255 < (s.content m.src).length + m.width) :
    ∃ t, runBody m (bodyLit v) s = .next t ∧ SrcBecomes m s t (s.content m.src) ∧ t.pc = s.pc + 1 ∧
      t.status = .faulted (.stackOverflow m.src) ∧ s.SameStores t := by
  have inside := Inside.start_whole ready m
  have body : bodyLit v m (s.begin m) = .error (.stackOverflow m.src) (s.begin m) :=
    bind_error (inside.push_overflow v full)
  obtain ⟨mem, dev, -, rest⟩ := inside.sameRest
  exact ⟨_, runBody_error body, srcBecomes_takeFault ready _ inside.pic inside.dst, inside.pc, rfl,
    mem, dev, rest⟩

/-- The bytes of the literal that LIT takes by its width (30_encoding.md R75). -/
theorem bytes_literal (m : Mode) (lit8 : Byte) (lit16 : Word) :
    m.bytes (if m.short then lit16 else zeroExtend lit8) =
      if m.short then [hiByte lit16, loByte lit16] else [lit8] := by
  unfold Mode.bytes
  split <;> simp

/-- At the opcode byte of a LIT the fetch takes the literal from the bytes after it (30_encoding.md R75). -/
theorem State.fetch_lit (opcode : s.memRead8 s.pc = encodeFields .lit m) :
    s.fetch = Instr.ofFields .lit m (s.memRead8 (s.pc + 1)) (s.memRead16 (s.pc + 1)) := by
  rw [State.fetch, opcode, decodeAt, decodeFields_encodeFields, State.memRead16, BitVec.add_assoc]
  rfl

/-- The item in memory is the literal there, as bytes (20_memory.md R45). -/
theorem State.itemAt_eq (s : State) (m : Mode) (a : Word) :
    s.itemAt m a =
      if m.short then [hiByte (s.memRead16 a), loByte (s.memRead16 a)] else [s.memRead8 a] := by
  simp [State.itemAt, State.memRead16]

@[simp] theorem State.letPass_content (s : State) (id : StackId) : s.letPass.content id = s.content id := by
  simp [State.content]

theorem State.Ready.letPass (ready : s.Ready) : s.letPass.Ready := by simpa [State.Ready] using ready

/-- Letting a step pass changes no stack. -/
@[simp] theorem srcBecomes_letPass {t : State} {c : List Byte} :
    SrcBecomes m s.letPass t c ↔ SrcBecomes m s t c := by
  simp [SrcBecomes]

end

/-- Settles O38: LIT is its body, which pushes or overflows first, and then moves on. -/
theorem litPushesItsLiteral : Obligations.LitPushesItsLiteral := by
  intro m lit8 lit16 s notBrk ready
  rw [exec_ofFields lit8 lit16 s fun _ => notBrk, ← bytes_literal]
  exact ⟨runBody_bodyLit_of_room ready _, runBody_bodyLit_of_full ready _⟩

/-- Settles O39: the step is LIT with the literal fetched from memory. -/
theorem litReadsItsLiteralFromMemory : Obligations.LitReadsItsLiteralFromMemory := by
  intro m s notBrk ready nonzero notDue opcode
  have run := step_eq_exec_fetch ready.1 nonzero notDue
  rw [State.fetch_lit opcode] at run
  have lit := litPushesItsLiteral m (s.memRead8 (s.pc + 1)) (s.memRead16 (s.pc + 1)) s.letPass notBrk
    ready.letPass
  simpa only [← run, ← State.itemAt_eq, State.letPass_content, State.letPass_pc, srcBecomes_letPass] using lit

end Sys2Proof.Machine
end

section
/-! PROOFS. What an instruction does after its pops, said once: a piece of a body that only pushes on the active
stack adds its bytes on top wherever it starts, and a body that raises there faults with what it has done
(spec/40_step_break_literal.md R91, R92, spec/60_exceptions.md R184). -/

namespace Sys2Proof.Machine

/-! ### Pieces that only push -/

/-- Anywhere inside a body with room for `bytes`, the piece `x` completes and has put them on the active stack. -/
def Pushes (m : Mode) (x : Body Unit) (bytes : List Byte) : Prop :=
  ∀ ⦃s t : State⦄ ⦃view content : List Byte⦄, Inside m s t view content →
    content.length + bytes.length ≤ 255 →
    ∃ u view', x t = .ok () u ∧ Inside m s u view' (content ++ bytes)

namespace Pushes

variable {m : Mode} {x y : Body Unit} {l k : List Byte}

theorem nothing : Pushes m (pure ()) [] :=
  fun _ t view _ at_ _ => ⟨t, view, rfl, by simpa using at_⟩

theorem item (v : Word) : Pushes m (push m m.src v) (m.bytes v) :=
  fun _ _ _ _ at_ room => at_.push v (by simpa using room)

theorem seq (hx : Pushes m x l) (hy : Pushes m y k) : Pushes m (x >>= fun _ => y) (l ++ k) := by
  intro s t view content at_ room
  rw [List.length_append] at room
  obtain ⟨u, _, first, pushed⟩ := hx at_ (by omega)
  obtain ⟨u', view', second, both⟩ := hy pushed (by rw [List.length_append]; omega)
  exact ⟨u', view', (bind_ok first).trans second, List.append_assoc content l k ▸ both⟩

end Pushes

/-- An instruction completes if its pops end at `t` and the rest of its body only pushes. -/
theorem completes_of_pushes {b : Base} {m : Mode} {s t : State} {view content l : List Byte} {rest : Body Unit}
    (ready : s.Ready) (notLit : b ≠ .lit) (pops : bodyOf 0 b m (s.begin m) = rest t)
    (at_ : Inside m s t view content) (pushes : Pushes m rest l) (room : content.length + l.length ≤ 255) :
    Completes b m s (content ++ l) := by
  obtain ⟨u, _, e, pushed⟩ := pushes at_ room
  exact completes_of_inside ready notLit (pops.trans e) pushed

/-! ### The items an instruction pops -/

theorem left_of_keep {m : Mode} (keep : m.keep = true) (base operands : List Byte) :
    m.left base operands = base ++ operands := if_pos keep

theorem left_of_not_keep {m : Mode} (keep : m.keep = false) (base operands : List Byte) :
    m.left base operands = base := if_neg (by simp [keep])

/-- Where the first pop of an instruction leaves the active stack (10_state.md R18, R19). -/
theorem Inside.pop_first {m : Mode} {s : State} {base : List Byte} {a : Word} (ready : s.Ready) (fits : m.Fits a)
    (hc : s.content m.src = base ++ m.bytes a) :
    ∃ t, Machine.pop m m.src (s.begin m) = .ok a t ∧ Inside m s t base (m.left base (m.bytes a)) := by
  simpa using (Inside.start_of_content ready hc).pop fits

/-- An instruction that pops one item and then only pushes turns the item into what it pushes. -/
theorem turnsOne_of_pushes {b : Base} {f : Mode → Word → List Byte} {rest : Mode → Word → Body Unit}
    (notLit : b ≠ .lit) (body : ∀ m, bodyOf 0 b m = do let a ← pop m m.src; rest m a)
    (pushes : ∀ m a, Pushes m (rest m a) (f m a)) : TurnsOne b f := by
  intro m s base a ready fits hc room
  obtain ⟨t, e, popped⟩ := Inside.pop_first ready fits hc
  exact completes_of_pushes ready notLit (by rw [body, bind_ok e]) popped (pushes m a) room

/-- The same with two items. -/
theorem turnsTwo_of_pushes {op : Base} {f : Mode → Word → Word → List Byte} {rest : Mode → Word → Word → Body Unit}
    (notLit : op ≠ .lit)
    (body : ∀ m, bodyOf 0 op m = do let b ← pop m m.src; let a ← pop m m.src; rest m a b)
    (pushes : ∀ m a b, Pushes m (rest m a b) (f m a b)) : TurnsTwo op f := by
  intro m s base a b ready fitsA fitsB hc room
  obtain ⟨t, eb, popped⟩ := Inside.pop_first ready fitsB (hc.trans (List.append_assoc _ _ _).symm)
  obtain ⟨u, ea, both⟩ := popped.pop fitsA
  exact completes_of_pushes ready notLit (by rw [body, bind_ok eb, bind_ok ea]) both (pushes m a b) room

/-- The same with three items. -/
theorem turnsThree_of_pushes {op : Base} {f : Mode → Word → Word → Word → List Byte}
    {rest : Mode → Word → Word → Word → Body Unit} (notLit : op ≠ .lit)
    (body : ∀ m, bodyOf 0 op m = do
      let c ← pop m m.src; let b ← pop m m.src; let a ← pop m m.src; rest m a b c)
    (pushes : ∀ m a b c, Pushes m (rest m a b c) (f m a b c)) : TurnsThree op f := by
  intro m s base a b c ready fitsA fitsB fitsC hc room
  simp only [← List.append_assoc] at hc
  obtain ⟨t, ec, popped⟩ := Inside.pop_first ready fitsC hc
  obtain ⟨u, eb, two⟩ := popped.pop fitsB
  obtain ⟨v, ea, three⟩ := two.pop fitsA
  simp only [List.append_assoc] at three room ⊢
  exact completes_of_pushes ready notLit (by rw [body, bind_ok ec, bind_ok eb, bind_ok ea]) three
    (pushes m a b c) room

/-- Every content that is long enough has an item of the operand width on top. -/
theorem exists_top_item (m : Mode) {content : List Byte} (enough : m.width ≤ content.length) :
    ∃ v, m.Fits v ∧ content = content.take (content.length - m.width) ++ m.bytes v := by
  have top : ∃ v, m.Fits v ∧ content.drop (content.length - m.width) = m.bytes v := by
    have len : (content.drop (content.length - m.width)).length = m.width := by
      rw [List.length_drop]; omega
    generalize content.drop (content.length - m.width) = top at len
    unfold Mode.Fits Mode.trunc Mode.bytes
    unfold Mode.width at len
    cases short : m.short <;> rw [short] at len
    case true =>
      obtain ⟨x, y, rfl⟩ := List.length_eq_two.1 len
      exact ⟨wordOf x y, rfl, by simp⟩
    case false =>
      obtain ⟨x, rfl⟩ := List.length_eq_one_iff.1 len
      exact ⟨zeroExtend x, by simp⟩
  obtain ⟨v, fits, e⟩ := top
  exact ⟨v, fits, by rw [← e, List.take_append_drop]⟩

/-! ### A body that raises -/

/-- The instruction of base operation `b` under flags `m` faults from `s` with `cause`: the next state has `c` on
the active stack, the program counter past the opcode byte, and all else as before. -/
abbrev Faults (b : Base) (m : Mode) (s : State) (cause : Cause) (c : List Byte) : Prop :=
  ∃ t, exec (Instr.ofOp b m) s = .next t ∧ SrcBecomes m s t c ∧ t.pc = s.pc + 1 ∧ t.status = .faulted cause ∧
    s.SameStores t

/-- An instruction faults where its body raises, the active stack being what it is there (60_exceptions.md
R184). -/
theorem faults_of_inside {b : Base} {m : Mode} {s t : State} {cause : Cause} {view content : List Byte}
    (ready : s.Ready) (notLit : b ≠ .lit) (e : bodyOf 0 b m (s.begin m) = .error cause t)
    (at_ : Inside m s t view content) : Faults b m s cause content := by
  obtain ⟨mem, dev, -, rest⟩ := at_.sameRest
  exact ⟨_, (exec_ofOp m s notLit).trans (runBody_error e), srcBecomes_takeFault ready cause at_.pic at_.dst, at_.pc,
    rfl, mem, dev, rest⟩

end Sys2Proof.Machine
end

section
/-! PROOFS. Stack shuffling (spec/41_stack_shuffling.md R100 to R107). -/

namespace Sys2Proof.Machine

/-- Settles O40: each instruction pops its items and then only pushes. -/
theorem shufflingPictures : Obligations.ShufflingPictures := by
  refine ⟨turnsOne_of_pushes (by decide) (fun _ => rfl) fun m a => ?inc,
    turnsOne_of_pushes (by decide) (fun _ => rfl) fun m a => ?pop,
    turnsOne_of_pushes (by decide) (fun _ => rfl) fun m a => ?dup,
    turnsTwo_of_pushes (by decide) (fun _ => rfl) fun m a b => ?nip,
    turnsTwo_of_pushes (by decide) (fun _ => rfl) fun m a b => ?swp,
    turnsTwo_of_pushes (by decide) (fun _ => rfl) fun m a b => ?ovr,
    turnsThree_of_pushes (by decide) (fun _ => rfl) fun m a b c => ?rot⟩
  case inc => simpa [BitVec.ofNat_add] using Pushes.item (m := m) (m.trunc (a + 1))
  case pop => exact .nothing
  case dup => exact .seq (.item a) (.item a)
  case nip => exact .item b
  case swp => exact .seq (.item b) (.item a)
  case ovr => rw [List.append_assoc]; exact .seq (.item a) (.seq (.item b) (.item a))
  case rot => rw [List.append_assoc]; exact .seq (.item b) (.seq (.item c) (.item a))

/-! ### POP -/

/-- A pop leaves the storage of the stack as it was (10_state.md R18, R19). -/
theorem pop_dat {m : Mode} {id : StackId} {s t : State} {v : Word} (h : pop m id s = .ok v t) :
    (t.stack id).dat = (s.stack id).dat := by
  have refl : ∀ s : State, (s.stack id).dat = (s.stack id).dat := fun _ => rfl
  have word : Keeps (fun s t => (t.stack id).dat = (s.stack id).dat) (pop16 id) := .pop16 refl fun s v S e => by
    obtain ⟨-, -, rfl⟩ := Stack.pop16_eq_some e
    simp
  have byte : Keeps (fun s t => (t.stack id).dat = (s.stack id).dat) (pop8 id) := .pop8 refl fun s v S e => by
    obtain ⟨-, -, rfl⟩ := Stack.pop8_eq_some e
    simp
  exact (Keeps.ite (fun _ => word) fun _ =>
    .bind (fun _ _ _ h1 h2 => h2.trans h1) byte fun _ => .pure refl _).of_ok h

/-- The entry into keep mode leaves the storage of the active stack as it was (10_state.md R20). -/
theorem State.begin_dat (s : State) (m : Mode) : ((s.begin m).stack m.src).dat = (s.stack m.src).dat := by
  rw [State.begin_src]
  split <;> rfl

/-- Settles O41: with an item on the stack POP is its pop alone, which moves a cursor and writes nothing;
without one the pop underflows at once. -/
theorem popDiscardsTheTop : Obligations.PopDiscardsTheTop := by
  refine fun m s ready => ⟨fun enough => ?_, fun few => ?_⟩
  · obtain ⟨v, fits, hc⟩ := exists_top_item m enough
    obtain ⟨t, e, popped⟩ := Inside.pop_first ready fits hc
    rw [Mode.left, ← hc] at popped
    exact ⟨_, (exec_ofOp m s (by decide)).trans (runBody_ok (bind_ok e)),
      srcBecomes_clearKeep ready popped.pic popped.dst,
      by rw [State.clearKeep_stack]; exact (pop_dat e).trans (s.begin_dat m), popped.pc, popped.sameRest⟩
  · have inside := Inside.start_whole ready m
    exact faults_of_inside ready (by decide) (bind_error (inside.pop_underflow few)) inside

/-! ### DUP -/

/-- If the first push of DUP has room and the second has none, the first stays made (60_exceptions.md R184). -/
theorem dup_faults_at_second_push {m : Mode} {s t : State} {a : Word} {view content : List Byte} (ready : s.Ready)
    (pops : pop m m.src (s.begin m) = .ok a t) (popped : Inside m s t view content)
    (room : content.length + m.width ≤ 255) (full : 255 < content.length + 2 * m.width) :
    Faults .dup m s (.stackOverflow m.src) (content ++ m.bytes a) := by
  obtain ⟨u, _, first, pushed⟩ := popped.push a room
  have second := pushed.push_overflow a (by rw [List.length_append, Mode.bytes_length]; omega)
  exact faults_of_inside ready (by decide) ((bind_ok pops).trans ((bind_ok first).trans second)) pushed

/-- Settles O54: without the keep flag the first push always has room, as the item was popped from there, so the
second overflows; with it either of the two may. -/
theorem dupOverflowKeepsTheFirstPush : Obligations.DupOverflowKeepsTheFirstPush := by
  intro m s base a ready fits hc bound full
  obtain ⟨t, pops, popped⟩ := Inside.pop_first ready fits hc
  rw [hc] at bound ⊢
  cases keep : m.keep with
  | false =>
    rw [left_of_not_keep keep] at popped full
    rw [List.length_append, Mode.bytes_length] at bound
    rw [if_neg fun h => nomatch h.1]
    exact dup_faults_at_second_push ready pops popped bound full
  | true =>
    rw [left_of_keep keep] at popped full
    by_cases room : (base ++ m.bytes a).length + m.width ≤ 255
    · rw [if_pos ⟨rfl, room⟩]
      exact dup_faults_at_second_push ready pops popped room full
    · have first := popped.push_overflow a (Nat.lt_of_not_le room)
      rw [if_neg fun h => room h.2]
      exact faults_of_inside ready (by decide) ((bind_ok pops).trans (bind_error first)) popped

end Sys2Proof.Machine
end

section
/-! PROOFS. Comparison (spec/42_comparison.md R110 to R114). -/

namespace Sys2Proof.Machine

/-- A byte is pushed as one byte, whatever the short flag is (10_state.md R16). -/
theorem Pushes.byte {m : Mode} (v : Byte) : Pushes m (push8 m.src v) [v] :=
  fun _ _ _ _ at_ room => at_.push8 v room

/-- An instruction whose body is the comparison by `P` turns its two items into the byte that says whether `P`
holds of them (42_comparison.md R110). -/
theorem turnsTwo_of_compareItems {op : Base} {P : Word → Word → Prop} [∀ a b, Decidable (P a b)]
    (notLit : op ≠ .lit) (body : ∀ m, bodyOf 0 op m = compareItems (fun a b => decide (P a b)) m) :
    TurnsTwo op (fun _ a b => [if P a b then 0x01 else 0x00]) :=
  turnsTwo_of_pushes notLit body fun m a b => by
    simpa only [decide_eq_true_eq] using Pushes.byte (m := m) (if P a b then 0x01 else 0x00)

/-- Settles O42: each instruction is the comparison by its condition; that of NEQ is EQU's negated, so its two
result bytes stand the other way round. -/
theorem comparisonsPushOneByte : Obligations.ComparisonsPushOneByte := by
  refine ⟨turnsTwo_of_compareItems (by decide) fun _ => rfl, ?neq,
    turnsTwo_of_compareItems (by decide) fun _ => rfl, turnsTwo_of_compareItems (by decide) fun _ => rfl⟩
  case neq =>
    have neq := turnsTwo_of_compareItems (op := .neq) (P := fun a b => a.toNat ≠ b.toNat) (by decide) fun _ => rfl
    simpa only [ne_eq, ite_not] using neq

end Sys2Proof.Machine
end

section
/-! PROOFS. Control flow (spec/43_control_flow.md R120 to R124). -/

namespace Sys2Proof.Machine

/-! ### A body that ends in a jump -/

/-- The instruction of base operation `b` under flags `m` completes from `s` with the program counter at `target`:
the next state has `c` on the active stack, and all else as before. -/
abbrev Lands (b : Base) (m : Mode) (s : State) (target : Word) (c : List Byte) : Prop :=
  ∃ t, exec (Instr.ofOp b m) s = .next t ∧ SrcBecomes m s t c ∧ t.pc = target ∧ s.SameRest t

/-- An instruction whose pops end at `t` and whose body then only jumps lands where the jump goes
(43_control_flow.md R120). -/
theorem lands_of_jump {b : Base} {m : Mode} {s t : State} {a : Word} {view content : List Byte} (ready : s.Ready)
    (notLit : b ≠ .lit) (body : bodyOf 0 b m (s.begin m) = jump m a t) (at_ : Inside m s t view content) :
    Lands b m s (landing m s.pc a) content := by
  have jumped := jump_run m a t
  have target := at_.jump_pc jumped
  exact ⟨_, (exec_ofOp m s notLit).trans (runBody_ok (body.trans jumped)),
    srcBecomes_congr rfl rfl (srcBecomes_clearKeep ready at_.pic at_.dst), target, at_.sameRest⟩

/-- Settles O48: JMP is its pop and the jump. -/
theorem jmpPopsAndLands : Obligations.JmpPopsAndLands := by
  intro m s base a ready fits hc
  obtain ⟨t, pops, popped⟩ := Inside.pop_first ready fits hc
  exact lands_of_jump ready (by decide) (bind_ok pops) popped

/-- Settles O49: after both pops JCN ends there if the byte is 0, and else ends in the jump. -/
theorem jcnLandsIfTheByteIsNotZero : Obligations.JcnLandsIfTheByteIsNotZero := by
  intro m s base c a ready fits hc
  obtain ⟨t, popsA, popped⟩ := Inside.pop_first ready fits (hc.trans (List.append_cons base c (m.bytes a)))
  obtain ⟨u, popsC, both⟩ := popped.pop8
  have body : bodyOf 0 .jcn m (s.begin m) = (if c ≠ 0 then jump m a else pure ()) u :=
    (bind_ok popsA).trans (bind_ok popsC)
  by_cases zero : c = 0
  · rw [if_neg (not_not_intro zero)] at body
    rw [if_pos zero]
    exact completes_of_inside ready (by decide) body both
  · rw [if_pos zero] at body
    rw [if_neg zero]
    exact lands_of_jump ready (by decide) body both

/-! ### JSR -/

/-- After its pop JSR pushes the address of the byte after the opcode, and then jumps (43_control_flow.md R123). -/
theorem bodyOf_jsr {m : Mode} {s t : State} {a : Word} {view content : List Byte}
    (pops : pop m m.src (s.begin m) = .ok a t) (popped : Inside m s t view content) :
    bodyOf 0 .jsr m (s.begin m) = (push16 m.dst (s.pc + 1) >>= fun _ => jump m a) t :=
  popped.pc ▸ (bind_ok pops).trans (readPc_bind _ t)

/-- From `s` to `t` the active stack's content became `c` and the companion stack's `d`, no stack is in keep mode,
and no keep cursor moved, but that of the active stack under the keep flag. -/
abbrev BothBecome (m : Mode) (s t : State) (c d : List Byte) : Prop :=
  t.content m.src = c ∧ t.content m.dst = d ∧ (t.stack m.src).keep = false ∧ (t.stack m.dst).keep = false ∧
    (m.keep = false → (t.stack m.src).kc = (s.stack m.src).kc) ∧ (t.stack m.dst).kc = (s.stack m.dst).kc

/-- Both stacks after keep mode ends, of a body that has replaced the companion stack by `D`. -/
theorem Inside.bothBecome_clearKeep {m : Mode} {s t : State} {view content view' d : List Byte} {D : Stack}
    (at_ : Inside m s t view content) (p : D.Pic false (s.stack m.dst).kc view' d) :
    BothBecome m s (t.setStack m.dst D).clearKeep content d := by
  have src : (t.setStack m.dst D).clearKeep.stack m.src = (t.stack m.src).leaveKeep := by simp
  have dst : (t.setStack m.dst D).clearKeep.stack m.dst = D.leaveKeep := by simp
  unfold BothBecome State.content
  rw [src, dst]
  exact ⟨at_.pic.leaveKeep, p.leaveKeep, rfl, rfl, at_.pic.kc_eq, p.kc_eq rfl⟩

/-- A replaced stack is no part of the rest. -/
theorem Inside.sameRest_setStack {m : Mode} {s t : State} {view content : List Byte}
    (at_ : Inside m s t view content) (id : StackId) (S : Stack) : s.SameRest (t.setStack id S) := by
  simpa [State.SameRest] using at_.sameRest

/-- JSR with room pushes the return address on the companion stack and lands (43_control_flow.md R123). -/
theorem jsr_of_room {m : Mode} {s : State} {base : List Byte} {a : Word} (ready : s.Ready) (fits : m.Fits a)
    (hc : s.content m.src = base ++ m.bytes a) (room : (s.content m.dst).length ≤ 253) :
    ∃ t, exec (Instr.ofOp .jsr m) s = .next t ∧
      BothBecome m s t (m.left base (m.bytes a)) (s.content m.dst ++ [hiByte (s.pc + 1), loByte (s.pc + 1)]) ∧
      t.pc = landing m s.pc a ∧ s.SameRest t := by
  obtain ⟨t, pops, popped⟩ := Inside.pop_first ready fits hc
  obtain ⟨D, push, pushed⟩ := push16_pic (s.pc + 1) (popped.dst_pic ready) (Nat.add_le_add_right room 2)
  have body := (bodyOf_jsr pops popped).trans ((bind_ok push).trans (jump_run m a _))
  have both := popped.bothBecome_clearKeep pushed
  refine ⟨_, (exec_ofOp m s (by decide)).trans (runBody_ok body), both, ?target, popped.sameRest_setStack m.dst D⟩
  rw [State.clearKeep_pc, State.setStack_pc, popped.pc, jumpTarget_succ]

/-- Settles O50: JSR is its pop, the push on the companion stack and the jump. -/
theorem jsrPushesTheReturnAddressAndLands : Obligations.JsrPushesTheReturnAddressAndLands := by
  intro m s base a ready fits hc room
  obtain ⟨t, e, ⟨src, dst, srcKeep, dstKeep, srcKc, dstKc⟩, rest⟩ := jsr_of_room ready fits hc room
  exact ⟨t, e, src, dst, srcKeep, dstKeep, srcKc, dstKc, rest⟩

/-- Settles O53: the push on the companion stack is the first step after the pop, and it raises. -/
theorem jsrOverflowComesAfterThePop : Obligations.JsrOverflowComesAfterThePop := by
  intro m s base a ready fits hc full
  obtain ⟨t, pops, popped⟩ := Inside.pop_first ready fits hc
  have overflow : push16 m.dst (s.pc + 1) t = .error (.stackOverflow m.dst) t := by
    refine push16_overflow _ ?_
    rw [popped.dst, ← Stack.content_length]
    exact Nat.add_lt_add_right full 2
  exact faults_of_inside ready (by decide) ((bodyOf_jsr pops popped).trans (bind_error overflow)) popped

/-! ### Call and return -/

theorem State.SameRest.trans {s t u : State} (st : s.SameRest t) (tu : t.SameRest u) : s.SameRest u := by
  obtain ⟨mem, dev, status, out, binding, hostState, pending⟩ := st
  simpa only [State.SameRest, mem, dev, status, out, binding, hostState, pending] using tu

/-- Settles O51: JMP2r pops the word that JSR2 pushed, which is all that JSR2 put on the return stack. -/
theorem callAndReturnComeBack : Obligations.CallAndReturnComeBack := by
  intro s base a ready hc room
  obtain ⟨t, call, ⟨wst, rst, wstKeep, rstKeep, -, -⟩, pcT, restT⟩ :=
    jsr_of_room (m := ⟨true, false, false⟩) ready rfl hc room
  have ⟨_, _, statusT, _⟩ := restT
  have readyT : t.Ready := ⟨statusT.trans ready.1, wstKeep, rstKeep⟩
  obtain ⟨u, ret, ⟨rstBack, wstSame, -, -⟩, pcU, restU⟩ :=
    jmpPopsAndLands ⟨true, true, false⟩ t (s.content .rst) (s.pc + 1) readyT rfl rst
  exact ⟨t, u, call, pcT, ret, pcU, (congrArg Stack.content wstSame).trans wst, rstBack,
    State.SameRest.trans restT restU⟩

end Sys2Proof.Machine
end

section
/-! PROOFS. Stack transfer (spec/44_stack_transfer.md R130). -/

namespace Sys2Proof

/-- The flags of the way back: the active and the companion stack are swapped (40_step_break_literal.md R91). -/
abbrev Mode.back (m : Mode) : Mode := { m with ret := !m.ret }

@[simp] theorem Mode.back_src (m : Mode) : m.back.src = m.dst := by
  obtain ⟨_, ret, _⟩ := m; cases ret <;> rfl

@[simp] theorem Mode.back_dst (m : Mode) : m.back.dst = m.src := by
  obtain ⟨_, ret, _⟩ := m; cases ret <;> rfl

/-- The active and the companion stack are all the stacks there are. -/
theorem Mode.forall_stack (m : Mode) {P : Machine.StackId → Prop} (src : P m.src) (dst : P m.dst)
    (id : Machine.StackId) : P id := by
  obtain ⟨_, ret, _⟩ := m
  cases ret <;> cases id
  case false.wst | true.rst => exact src
  case false.rst | true.wst => exact dst

end Sys2Proof

namespace Sys2Proof.Machine

section

variable {m : Mode} {s : State} {base : List Byte} {a : Word}

/-- STH with room puts its item on top of the companion stack. -/
theorem sth_of_room (ready : s.Ready) (fits : m.Fits a) (hc : s.content m.src = base ++ m.bytes a)
    (room : (s.content m.dst).length + m.width ≤ 255) :
    ∃ t, exec (Instr.ofOp .sth m) s = .next t ∧
      BothBecome m s t (m.left base (m.bytes a)) (s.content m.dst ++ m.bytes a) ∧ t.pc = s.pc + 1 ∧
      s.SameRest t := by
  obtain ⟨t, pops, popped⟩ := Inside.pop_first ready fits hc
  obtain ⟨D, push, pushed⟩ := push_pic a (popped.dst_pic ready) room
  refine ⟨_, (exec_ofOp m s (by decide)).trans (runBody_ok ((bind_ok pops).trans push)),
    popped.bothBecome_clearKeep pushed, ?pc, popped.sameRest_setStack m.dst D⟩
  rw [State.clearKeep_pc, State.setStack_pc, popped.pc]

/-- STH without room faults with its pop done: the item is on neither stack, but on the active one under the keep
flag. -/
theorem sth_of_full (ready : s.Ready) (fits : m.Fits a) (hc : s.content m.src = base ++ m.bytes a)
    (full : 255 < (s.content m.dst).length + m.width) :
    Faults .sth m s (.stackOverflow m.dst) (m.left base (m.bytes a)) := by
  obtain ⟨t, pops, popped⟩ := Inside.pop_first ready fits hc
  have overflow : push m m.dst a t = .error (.stackOverflow m.dst) t := by
    refine push_overflow a ?_
    rw [popped.dst, ← Stack.content_length]
    exact full
  exact faults_of_inside ready (by decide) ((bind_ok pops).trans overflow) popped

/-- STH without an item faults at once. -/
theorem sth_of_few (ready : s.Ready) (few : (s.content m.src).length < m.width) :
    Faults .sth m s (.stackUnderflow m.src) (s.content m.src) :=
  have inside := Inside.start_whole ready m
  faults_of_inside ready (by decide) (bind_error (inside.pop_underflow few)) inside

/-- The way back finds the item on top of the companion stack, and room for it where it came from. -/
theorem sth_sth_back (ready : s.Ready) (fits : m.Fits a) (hc : s.content m.src = base ++ m.bytes a)
    (notKept : m.keep = false) (bound : (s.content m.src).length ≤ 255)
    (room : (s.content m.dst).length + m.width ≤ 255) :
    ∃ t u, exec (Instr.ofOp .sth m) s = .next t ∧ exec (Instr.ofOp .sth m.back) t = .next u ∧
      ∀ id, u.content id = s.content id := by
  obtain ⟨t, there, ⟨src, dst, srcKeep, dstKeep, -, -⟩, -, -, -, status, -⟩ := sth_of_room ready fits hc room
  rw [left_of_not_keep notKept] at src
  have keep := m.forall_stack (P := fun id => (t.stack id).keep = false) srcKeep dstKeep
  have readyT : t.Ready := ⟨status.trans ready.1, keep .wst, keep .rst⟩
  have roomBack : (t.content m.back.dst).length + m.width ≤ 255 := by
    rwa [m.back_dst, src, ← m.bytes_length a, ← List.length_append, ← hc]
  obtain ⟨u, back, ⟨srcU, dstU, -⟩, -⟩ :=
    sth_of_room (m := m.back) readyT fits ((congrArg t.content m.back_src).trans dst) roomBack
  rw [left_of_not_keep (m := m.back) notKept, m.back_src] at srcU
  rw [m.back_dst, src] at dstU
  exact ⟨t, u, there, back, m.forall_stack (dstU.trans hc.symm) srcU⟩

end

/-- Settles O52: STH is its pop and the push on the companion stack, either of which may fault. -/
theorem sthMovesAnItemAcross : Obligations.SthMovesAnItemAcross := by
  refine fun m s ready => ⟨fun base a fits hc => ⟨fun room => ?moves, sth_of_full ready fits hc,
    fun notKept bound room => ?back⟩, sth_of_few ready⟩
  case moves =>
    obtain ⟨t, e, ⟨src, dst, srcKeep, dstKeep, srcKc, dstKc⟩, rest⟩ := sth_of_room ready fits hc room
    exact ⟨t, e, src, dst, srcKeep, dstKeep, srcKc, dstKc, rest⟩
  case back =>
    obtain ⟨t, u, there, back, restored⟩ := sth_sth_back ready fits hc notKept bound room
    exact ⟨t, u, there, back, restored .wst, restored .rst⟩

end Sys2Proof.Machine
end

section
/-! PROOFS. Memory access (spec/45_memory_access.md R135 to R141): every load is the pop of its address, the read and
the push, every store is the pops of its address and its item, and the write. -/

namespace Sys2Proof.Machine

/-! ### Operands and addresses -/

/-- A byte on top of an item, popped first: where the two pops leave the active stack (10_state.md R18, R19). -/
theorem Inside.pop_byte_then_item {m : Mode} {s : State} {base : List Byte} {v : Word} {x : Byte} (ready : s.Ready)
    (fits : m.Fits v) (hc : s.content m.src = base ++ (m.bytes v ++ [x])) :
    ∃ t u, Machine.pop8 m.src (s.begin m) = .ok x t ∧ Machine.pop m m.src t = .ok v u ∧
      Inside m s u base (m.left base (m.bytes v ++ [x])) := by
  obtain ⟨t, popsX, popped⟩ := (Inside.start_of_content ready (hc.trans (List.append_assoc _ _ _).symm)).pop8
  obtain ⟨u, popsV, both⟩ := popped.pop fits
  exact ⟨t, u, popsX, popsV, both⟩

/-- LDR and STR address the byte at which a jump by the same offset in byte mode lands (45_memory_access.md R135). -/
theorem relativeAddress_succ (pc : Word) (o : Byte) :
    relativeAddress (pc + 1) o = BitVec.ofInt 16 ((pc.toNat : Int) + 1 + o.toInt) := by
  simpa [jumpTarget, landing, relativeAddress] using jumpTarget_succ ⟨false, false, false⟩ pc (zeroExtend o)

/-! ### Loads -/

/-- The item in memory depends on memory only. -/
theorem State.itemAt_congr {s t : State} (mem : t.mem = s.mem) (m : Mode) (a : Word) : t.itemAt m a = s.itemAt m a := by
  simp only [State.itemAt, State.memRead8, mem]

/-- The bytes of the value that a load reads are the item in memory (40_step_break_literal.md R92). -/
theorem bytes_load (s : State) (m : Mode) (a : Word) :
    m.bytes (if m.short then s.memRead16 a else zeroExtend (s.memRead8 a)) = s.itemAt m a :=
  (bytes_literal m _ _).trans (s.itemAt_eq m a).symm

/-- An instruction whose pop ends at `t` and that then loads and pushes completes with the item in memory on top: the
pop has left memory alone. -/
theorem loads_of_pop {b : Base} {m : Mode} {s t : State} {view base operand : List Byte} {ea : Word} (ready : s.Ready)
    (notLit : b ≠ .lit) (body : bodyOf 0 b m (s.begin m) = (load m ea >>= push m m.src) t)
    (popped : Inside m s t view (m.left base operand)) : Loads b m s base operand ea := by
  intro room
  have pushes : Pushes m (push m m.src _) _ := .item (if m.short then t.memRead16 ea else zeroExtend (t.memRead8 ea))
  rw [← s.itemAt_congr popped.mem m ea, ← bytes_load]
  exact completes_of_pushes ready notLit (body.trans (load_bind m ea _ t)) popped pushes
    (by rwa [Mode.bytes_length])

/-- Settles O55: each load is the pop of its address, a byte or a word, and the load from there. -/
theorem loadsPushTheItemInMemory : Obligations.LoadsPushTheItemInMemory := by
  refine fun m s base ready => ⟨fun z hc => ?ldz, fun o hc => ?ldr, fun w hc => ?lda, zeroExtend_toNat,
    relativeAddress_succ s.pc⟩
  case ldz =>
    obtain ⟨t, pops, popped⟩ := (Inside.start_of_content ready hc).pop8
    exact loads_of_pop ready (by decide) (bind_ok pops) popped
  case ldr =>
    obtain ⟨t, pops, popped⟩ := (Inside.start_of_content ready hc).pop8
    exact loads_of_pop ready (by decide) (popped.pc ▸ (bind_ok pops).trans (readPc_bind _ t)) popped
  case lda =>
    obtain ⟨t, pops, popped⟩ := (Inside.start_of_content ready hc).pop16
    exact loads_of_pop ready (by decide) (bind_ok pops) popped

/-! ### Stores -/

/-- The state after `Store(a, v)` (40_step_break_literal.md R92). -/
def State.storeItem (s : State) (m : Mode) (a v : Word) : State :=
  if m.short then s.memWrite16 a v else s.memWrite8 a (loByte v)

theorem store_eq_storeItem (m : Mode) (a v : Word) (s : State) : store m a v s = .ok () (s.storeItem m a v) := rfl

/-- A store changes nothing but memory (20_memory.md R43, R44). -/
theorem State.storeItem_frame (s : State) (m : Mode) (a v : Word) :
    s.storeItem m a v = { s with mem := (s.storeItem m a v).mem } := by
  unfold State.storeItem; split <;> rfl

/-- The item stored is the item in memory there (20_memory.md R45). -/
theorem State.itemAt_storeItem (s : State) (m : Mode) (a v : Word) : (s.storeItem m a v).itemAt m a = m.bytes v := by
  unfold State.storeItem State.itemAt Mode.bytes
  cases m.short with
  | true => simp [State.memRead8_memWrite16]
  | false => simp [State.memRead8_memWrite8]

/-- A store leaves every byte outside its item as it was (20_memory.md R43, R44). -/
theorem State.memRead8_storeItem_other (s : State) (m : Mode) (v : Word) {a x : Word} (first : x ≠ a)
    (second : m.short = true → x ≠ a + 1) : (s.storeItem m a v).memRead8 x = s.memRead8 x := by
  unfold State.storeItem
  cases short : m.short with
  | true => rw [if_pos rfl, State.memRead8_memWrite16, if_neg first, if_neg (second short)]
  | false => simp [State.memRead8_memWrite8, first]

/-- An instruction whose pops end at `t` and that then only stores completes with its item in memory, and changes
nothing else there: the pops have left memory alone. -/
theorem stores_of_pops {b : Base} {m : Mode} {s t : State} {view base operands : List Byte} {ea v : Word}
    (ready : s.Ready) (notLit : b ≠ .lit) (body : bodyOf 0 b m (s.begin m) = store m ea v t)
    (popped : Inside m s t view (m.left base operands)) : Stores b m s base operands ea v := by
  have item := t.itemAt_storeItem m ea v
  have other := fun x => t.memRead8_storeItem_other m v (a := ea) (x := x)
  rw [store_eq_storeItem] at body
  rw [t.storeItem_frame] at item other body
  obtain ⟨mem, rest⟩ := popped.sameRest
  refine ⟨_, (exec_ofOp m s notLit).trans (runBody_ok body),
    srcBecomes_congr rfl rfl (srcBecomes_clearKeep ready popped.pic popped.dst), popped.pc, item,
    fun x first second => (other x first second).trans ?_, rest⟩
  rw [State.memRead8, mem, State.memRead8]

/-- Settles O56: each store is the pop of its address, a byte or a word, the pop of its item, and the store there. -/
theorem storesWriteOnlyTheirItem : Obligations.StoresWriteOnlyTheirItem := by
  refine fun m s base v ready fits => ⟨fun z hc => ?stz, fun o hc => ?str, fun w hc => ?sta⟩
  case stz =>
    obtain ⟨t, u, popsZ, popsV, both⟩ := Inside.pop_byte_then_item ready fits hc
    exact stores_of_pops ready (by decide) ((bind_ok popsZ).trans (bind_ok popsV)) both
  case str =>
    obtain ⟨t, u, popsO, popsV, both⟩ := Inside.pop_byte_then_item ready fits hc
    exact stores_of_pops ready (by decide)
      (both.pc ▸ (bind_ok popsO).trans ((bind_ok popsV).trans (readPc_bind _ u))) both
  case sta =>
    obtain ⟨t, popsW, popped⟩ := (Inside.start_of_content ready (hc.trans (List.append_assoc _ _ _).symm)).pop16
    obtain ⟨u, popsV, both⟩ := popped.pop fits
    exact stores_of_pops ready (by decide) ((bind_ok popsW).trans (bind_ok popsV)) both

end Sys2Proof.Machine
end

section
/-! PROOFS. Device input and output (spec/46_device_io.md R150, R151): DEI is the pop of its address, one or two device
reads and the push, DEO is the pops of its address and its item, and one or two device writes. -/

namespace Sys2Proof.Machine

/-! ### Items at device addresses -/

/-- The two addresses of a word differ, at the end of the device surface too (decision D7). -/
theorem byte_succ_ne (a : Byte) : a + 1 ≠ a := by bv_omega

/-- The device reads of DEI: the item read at `a`, and the state after the reads (46_device_io.md R150). -/
def State.devReadItem (s : State) (m : Mode) (a : Byte) : Word × State :=
  if m.short then
    (wordOf (s.devRead a).1 ((s.devRead a).2.devRead (a + 1)).1, ((s.devRead a).2.devRead (a + 1)).2)
  else (zeroExtend (s.devRead a).1, (s.devRead a).2)

/-- The state after the device writes of DEO, the item `v` at `a` (46_device_io.md R151). -/
def State.devWriteItem (s : State) (m : Mode) (a : Byte) (v : Word) : State :=
  if m.short then (s.devWrite a (hiByte v)).devWrite (a + 1) (loByte v) else s.devWrite a (loByte v)

/-- After its pop DEI reads its item and pushes it. -/
theorem bodyOf_dei {m : Mode} {s t : State} {a : Byte} (pops : pop8 m.src (s.begin m) = .ok a t) :
    bodyOf 0 .dei m (s.begin m) = push m m.src (t.devReadItem m a).1 (t.devReadItem m a).2 := by
  refine (bind_ok pops).trans ?_
  unfold State.devReadItem push
  cases m.short with
  | true => rfl
  | false =>
    rw [if_neg Bool.false_ne_true, if_neg Bool.false_ne_true, if_neg Bool.false_ne_true, loByte_zeroExtend]
    rfl

/-- After its pops DEO only writes its item. -/
theorem bodyOf_deo {m : Mode} {s t u : State} {a : Byte} {v : Word} (popsA : pop8 m.src (s.begin m) = .ok a t)
    (popsV : pop m m.src t = .ok v u) : bodyOf 0 .deo m (s.begin m) = .ok () (u.devWriteItem m a v) := by
  refine (bind_ok popsA).trans ((bind_ok popsV).trans ?_)
  unfold State.devWriteItem
  cases m.short <;> rfl

section

variable (s : State) (m : Mode) (a : Byte) (v : Word)

@[simp] theorem State.devReadItem_stack (id : StackId) : (s.devReadItem m a).2.stack id = s.stack id := by
  unfold State.devReadItem; split <;> simp
@[simp] theorem State.devReadItem_pc : (s.devReadItem m a).2.pc = s.pc := by
  unfold State.devReadItem; split <;> simp

@[simp] theorem State.devWriteItem_stack (id : StackId) : (s.devWriteItem m a v).stack id = s.stack id := by
  unfold State.devWriteItem; split <;> simp
@[simp] theorem State.devWriteItem_pc : (s.devWriteItem m a v).pc = s.pc := by
  unfold State.devWriteItem; split <;> simp

/-- The bytes of the device surface after DEO's writes: neither byte of a word hides the other (20_memory.md R53). -/
theorem State.devByte_devWriteItem (x : Byte) : (s.devWriteItem m a v).devByte x =
    if m.short then (if x = a then hiByte v else if x = a + 1 then loByte v else s.devByte x)
    else (if x = a then loByte v else s.devByte x) := by
  unfold State.devWriteItem
  cases m.short with
  | false => exact s.devByte_devWrite a (loByte v) x
  | true =>
    rw [if_pos rfl, if_pos rfl, State.devByte_devWrite, State.devByte_devWrite]
    by_cases first : x = a
    · subst first
      rw [if_neg (byte_succ_ne x).symm, if_pos rfl, if_pos rfl]
    · rw [if_neg first, if_neg first]

end

/-! ### The two hosts -/

section

variable {s : State}

/-- The reference host answers with the stored bytes and changes nothing (20_memory.md R55). -/
theorem State.devReadItem_reference (h : s.binding = .reference) (m : Mode) (a : Byte) :
    s.devReadItem m a =
      (if m.short then wordOf (s.devByte a) (s.devByte (a + 1)) else zeroExtend (s.devByte a), s) := by
  simp only [State.devReadItem, State.devRead_reference h]
  split <;> rfl

/-- Another host's read hook sees at the second address the host's state that the first call left (20_memory.md
R55). -/
theorem State.devReadItem_other (h : s.binding = .other) (m : Mode) (a : Byte) :
    let first := Config.hostRead s.hostState s.dev a
    let second := Config.hostRead first.1 s.dev (a + 1)
    s.devReadItem m a = (if m.short then wordOf first.2 second.2 else zeroExtend first.2,
      { s with hostState := if m.short then second.1 else first.1 }) := by
  have again (n : Nat) : ({ s with hostState := n } : State).binding = .other := h
  simp only [State.devReadItem, State.devRead_other h, State.devRead_other (again _)]
  split <;> rfl

/-- The reference host emits each byte stored at CONSOLE_OUT, in order, and nothing else (20_memory.md R55, R56). -/
theorem State.devWriteItem_reference (h : s.binding = .reference) (m : Mode) (a : Byte) (v : Word) :
    s.devWriteItem m a v = { s with
      dev := (s.devWriteItem m a v).dev
      out := s.out ++ (if m.short
        then (if a = consoleOut then [hiByte v] else []) ++ (if a + 1 = consoleOut then [loByte v] else [])
        else (if a = consoleOut then [loByte v] else [])) } := by
  have emits (c : Prop) [Decidable c] (l : List Byte) (b : Byte) :
      (if c then l ++ [b] else l) = l ++ if c then [b] else [] := by split <;> simp
  unfold State.devWriteItem
  cases m.short with
  | false =>
    rw [if_neg Bool.false_ne_true, if_neg Bool.false_ne_true, ← emits, State.devWrite_reference h]
  | true =>
    have again : (s.devWrite a (hiByte v)).binding = .reference := (s.devWrite_binding a _).trans h
    rw [if_pos rfl, if_pos rfl, ← List.append_assoc, ← emits, ← emits, State.devWrite_reference again,
      State.devWrite_reference h]

/-- Another host's write hook is called after each store, on the surface as it is then (20_memory.md R55,
decision D8). -/
theorem State.devWriteItem_other (h : s.binding = .other) (m : Mode) (a : Byte) (v : Word) :
    let first := if m.short then hiByte v else loByte v
    let dev1 := Memory.write s.dev a.toNat first
    let dev2 := Memory.write dev1 (a + 1).toNat (loByte v)
    let host1 := Config.hostWrite s.hostState dev1 a first
    s.devWriteItem m a v = { s with
      dev := if m.short then dev2 else dev1
      hostState := if m.short then Config.hostWrite host1 dev2 (a + 1) (loByte v) else host1 } := by
  unfold State.devWriteItem
  cases m.short with
  | false => exact State.devWrite_other h a (loByte v)
  | true =>
    have again : (s.devWrite a (hiByte v)).binding = .other := (s.devWrite_binding a _).trans h
    rw [if_pos rfl, State.devWrite_other again, State.devWrite_other h]
    rfl

end

/-! ### Device accesses inside a body -/

section

variable {m : Mode} {s t : State} {view content : List Byte}

/-- What a body has done to its stack does not depend on the device side: the same device side put into the state at the
start and the state now. -/
theorem Inside.withDevices (at_ : Inside m s t view content) (dev : Memory) (out : List Byte) (host : Nat) :
    Inside m { s with dev := dev, out := out, hostState := host } { t with dev := dev, out := out, hostState := host }
      view content := by
  obtain ⟨S, rfl, p⟩ := at_
  obtain ⟨short, ret, keep⟩ := m
  refine ⟨S, ?_, ?_⟩
  · cases ret <;> cases keep <;> rfl
  · cases ret <;> exact p

/-- A device read depends on the device side only (20_memory.md R52). -/
theorem State.devRead_congr (rest : s.SameRest t) (a : Byte) :
    (t.devRead a).1 = (s.devRead a).1 ∧ (t.devRead a).2.hostState = (s.devRead a).2.hostState := by
  obtain ⟨-, dev, -, -, binding, hostState, -⟩ := rest
  cases host : s.binding with
  | reference =>
    rw [State.devRead_reference host, State.devRead_reference (binding.trans host)]
    exact ⟨by rw [State.devByte, dev, State.devByte], hostState⟩
  | other =>
    rw [State.devRead_other host, State.devRead_other (binding.trans host), dev, hostState]
    exact ⟨rfl, rfl⟩

/-- A device write depends on the device side only (20_memory.md R53). -/
theorem State.devWrite_congr (rest : s.SameRest t) (a v : Byte) :
    (t.devWrite a v).out = (s.devWrite a v).out ∧ (t.devWrite a v).hostState = (s.devWrite a v).hostState := by
  obtain ⟨-, dev, -, out, binding, hostState, -⟩ := rest
  cases host : s.binding with
  | reference =>
    rw [State.devWrite_reference host, State.devWrite_reference (binding.trans host), out]
    exact ⟨rfl, hostState⟩
  | other =>
    rw [State.devWrite_other host, State.devWrite_other (binding.trans host), dev, hostState]
    exact ⟨out, rfl⟩

/-- A device read inside a body gives what it gives at the start of the body. -/
theorem Inside.devRead (at_ : Inside m s t view content) (a : Byte) :
    (t.devRead a).1 = (s.devRead a).1 ∧ Inside m (s.devRead a).2 (t.devRead a).2 view content := by
  obtain ⟨byte, host⟩ := State.devRead_congr at_.sameRest a
  refine ⟨byte, ?_⟩
  rw [t.devRead_frame, s.devRead_frame, host]
  obtain ⟨-, dev, -, out, -⟩ := at_.sameRest
  simpa only [dev, out] using at_.withDevices s.dev s.out _

/-- A device write inside a body does what it does at the start of the body. -/
theorem Inside.devWrite (at_ : Inside m s t view content) (a v : Byte) :
    Inside m (s.devWrite a v) (t.devWrite a v) view content := by
  obtain ⟨out, host⟩ := State.devWrite_congr at_.sameRest a v
  rw [t.devWrite_frame, s.devWrite_frame, out, host, at_.dev]
  exact at_.withDevices _ _ _

theorem Inside.devReadItem (at_ : Inside m s t view content) (a : Byte) :
    (t.devReadItem m a).1 = (s.devReadItem m a).1 ∧
      Inside m (s.devReadItem m a).2 (t.devReadItem m a).2 view content := by
  obtain ⟨hi, first⟩ := at_.devRead a
  obtain ⟨lo, second⟩ := first.devRead (a + 1)
  unfold State.devReadItem
  cases m.short with
  | true => exact ⟨congrArg₂ wordOf hi lo, second⟩
  | false => exact ⟨congrArg zeroExtend hi, first⟩

theorem Inside.devWriteItem (at_ : Inside m s t view content) (a : Byte) (v : Word) :
    Inside m (s.devWriteItem m a v) (t.devWriteItem m a v) view content := by
  unfold State.devWriteItem
  cases m.short with
  | true => exact (at_.devWrite a (hiByte v)).devWrite (a + 1) (loByte v)
  | false => exact at_.devWrite a (loByte v)

/-! ### The two instructions with any host -/

/-- Where `s'` is what the device accesses alone make of `s`, an instruction that touches only devices and the active
stack completes with the rest as in `s'`. -/
theorem completes_of_accesses {b : Base} {s' : State} (ready : s.Ready) (notLit : b ≠ .lit)
    (sameStack : ∀ id, s'.stack id = s.stack id) (pc : s'.pc = s.pc) (body : bodyOf 0 b m (s.begin m) = .ok () t)
    (at_ : Inside m s' t view content) :
    ∃ u, exec (Instr.ofOp b m) s = .next u ∧ SrcBecomes m s u content ∧ u.pc = s.pc + 1 ∧ s'.SameRest u :=
  ⟨_, (exec_ofOp m s notLit).trans (runBody_ok body),
    srcBecomes_clearKeep ready (sameStack m.src ▸ at_.pic) (at_.dst.trans (sameStack m.dst)),
    at_.pc.trans (congrArg (· + 1) pc), at_.sameRest⟩

/-- DEI pushes the item it reads, and of the rest changes what the reads change (46_device_io.md R150). -/
theorem exec_dei {base : List Byte} {a : Byte} (ready : s.Ready) (hc : s.content m.src = base ++ [a])
    (room : (m.left base [a]).length + m.width ≤ 255) :
    ∃ u, exec (Instr.ofOp .dei m) s = .next u ∧
      SrcBecomes m s u (m.left base [a] ++ m.bytes (s.devReadItem m a).1) ∧ u.pc = s.pc + 1 ∧
      (s.devReadItem m a).2.SameRest u := by
  obtain ⟨t, pops, popped⟩ := (Inside.start_of_content ready hc).pop8
  obtain ⟨item, read⟩ := popped.devReadItem a
  obtain ⟨u, _, push, pushed⟩ := read.push (s.devReadItem m a).1 room
  exact completes_of_accesses ready (by decide) (s.devReadItem_stack m a) (s.devReadItem_pc m a)
    ((bodyOf_dei pops).trans (item ▸ push)) pushed

/-- DEO changes of the rest what its writes change (46_device_io.md R151). -/
theorem exec_deo {base : List Byte} {v : Word} {a : Byte} (ready : s.Ready) (fits : m.Fits v)
    (hc : s.content m.src = base ++ (m.bytes v ++ [a])) :
    ∃ u, exec (Instr.ofOp .deo m) s = .next u ∧ SrcBecomes m s u (m.left base (m.bytes v ++ [a])) ∧
      u.pc = s.pc + 1 ∧ (s.devWriteItem m a v).SameRest u := by
  obtain ⟨t, t', popsA, popsV, both⟩ := Inside.pop_byte_then_item ready fits hc
  exact completes_of_accesses ready (by decide) (s.devWriteItem_stack m a v) (s.devWriteItem_pc m a v)
    (bodyOf_deo popsA popsV) (both.devWriteItem a v)

end

/-! ### The two instructions with each host -/

/-- Settles O57: the item that DEI reads from the reference host is the stored one, and the reads change nothing. -/
theorem deiPushesTheStoredBytes : Obligations.DeiPushesTheStoredBytes := by
  intro m s base a ready reference hc room
  have next : BitVec.ofNat 8 ((a.toNat + 1) % 256) = a + 1 := by bv_omega
  obtain ⟨t, e, becomes, pc, rest⟩ := exec_dei ready hc room
  rw [State.devReadItem_reference reference] at becomes rest
  rw [bytes_literal, hiByte_wordOf, loByte_wordOf, ← next] at becomes
  exact ⟨t, e, becomes, pc, rest⟩

/-- Settles O58: the item that DEI reads from another host is what its hook returned, call by call. -/
theorem deiCallsTheReadHook : Obligations.DeiCallsTheReadHook := by
  intro m s base a ready other hc room first second
  obtain ⟨t, e, becomes, pc, rest⟩ := exec_dei ready hc room
  rw [State.devReadItem_other other] at becomes rest
  rw [bytes_literal, hiByte_wordOf, loByte_wordOf] at becomes
  obtain ⟨mem, dev, status, out, binding, host, pending⟩ := rest
  exact ⟨t, e, becomes, pc, ⟨mem, dev, status, out, binding, rfl, pending⟩, host⟩

/-- Settles O59: by the bytes of the device surface after DEO's writes, and what the reference host emits. -/
theorem deoStoresAndEmits : Obligations.DeoStoresAndEmits := by
  intro m s base v a ready reference fits hc
  obtain ⟨t, e, becomes, pc, rest⟩ := exec_deo ready fits hc
  rw [State.devWriteItem_reference reference] at rest
  obtain ⟨mem, dev, status, out, binding, host, pending⟩ := rest
  refine ⟨t, e, becomes, pc, fun x => ?bytes, out, mem, rfl, status, rfl, binding, host, pending⟩
  rw [← State.devByte_devWriteItem, State.devByte, dev, State.devByte]

/-- Settles O60: by DEO's writes with another host, whose hook follows each store. -/
theorem deoCallsTheWriteHookAfterEachStore : Obligations.DeoCallsTheWriteHookAfterEachStore := by
  intro m s base v a ready other fits hc first dev1 dev2 host1
  obtain ⟨t, e, becomes, pc, rest⟩ := exec_deo ready fits hc
  rw [State.devWriteItem_other other] at rest
  obtain ⟨mem, dev, status, out, binding, host, pending⟩ := rest
  exact ⟨t, e, becomes, pc, dev, host, mem, rfl, status, out, binding, rfl, pending⟩

end Sys2Proof.Machine
end

section
/-! PROOFS. Arithmetic and bitwise (spec/47_arithmetic_bitwise.md R160 to R167): a binary operation pushes its result
of 16 bits cut to the operand width, and the statements' numbers differ from it by multiples of 2^8 or 2^16. -/

namespace Sys2Proof

/-! ### Results cut to the operand width -/

/-- Only the residue modulo 2^8 or 2^16 of a number, which may be negative, shows in the bytes pushed for it
(decision D2). -/
theorem Mode.bytes_ofInt_mod (m : Mode) (z : Int) :
    m.bytes (BitVec.ofInt 16 (z % 2 ^ (8 * m.width))) = m.bytes (BitVec.ofInt 16 z) := by
  refine m.bytes_congr ?_
  rw [BitVec.toNat_ofInt, BitVec.toNat_ofInt]
  unfold Mode.width
  cases m.short with
  | true => simp
  | false => simp; omega

theorem Mode.bytes_ofNat_mod (m : Mode) (n : Nat) :
    m.bytes (BitVec.ofNat 16 (n % 2 ^ (8 * m.width))) = m.bytes (BitVec.ofNat 16 n) := by
  simpa [← BitVec.ofInt_natCast] using m.bytes_ofInt_mod n

end Sys2Proof

namespace Sys2Proof.Machine

/-- The difference of two words is the difference of their numbers, modulo 2^16. -/
theorem ofInt_toNat_sub_toNat (a b : Word) : BitVec.ofInt 16 ((a.toNat : Int) - (b.toNat : Int)) = a - b := by
  rw [Int.sub_eq_add_neg, BitVec.ofInt_add, BitVec.ofInt_neg, BitVec.sub_eq_add_neg]
  simp

/-! ### The binary operations -/

/-- An instruction whose body is `Binary(g)` turns its two items into the bytes of `g` of them, or of an `f` with
the same bytes: those above the operand width are cut off (47_arithmetic_bitwise.md R160). -/
theorem turnsTwo_of_binary {op : Base} {g : Word → Word → Word} {f : Mode → Word → Word → Word} (notLit : op ≠ .lit)
    (body : ∀ m, bodyOf 0 op m = binary g m) (sameBytes : ∀ (m : Mode) a b, m.bytes (f m a b) = m.bytes (g a b)) :
    TurnsTwo op (fun m a b => m.bytes (f m a b)) :=
  turnsTwo_of_pushes notLit body fun m a b => by
    rw [sameBytes, ← Mode.bytes_trunc]; exact .item _

/-- Settles O43: each instruction is the operation on words, that is modulo 2^16, and a result of one byte is cut to
its residue modulo 2^8. -/
theorem addSubMulAreModular : Obligations.AddSubMulAreModular := by
  refine ⟨turnsTwo_of_binary (by decide) (fun _ => rfl) fun m a b => ?add,
    turnsTwo_of_binary (by decide) (fun _ => rfl) fun m a b => ?sub,
    turnsTwo_of_binary (by decide) (fun _ => rfl) fun m a b => ?mul⟩
  case add => simp [m.bytes_ofNat_mod, BitVec.ofNat_add]
  case sub => rw [m.bytes_ofInt_mod, ofInt_toNat_sub_toNat]
  case mul => simp [m.bytes_ofNat_mod, BitVec.ofNat_mul]

/-- Settles O46: each instruction is the operation on words, whose bit `i` is that of the two bits `i`. -/
theorem bitwiseOperationsActOnEachBit : Obligations.BitwiseOperationsActOnEachBit := by
  refine ⟨turnsTwo_of_binary (by decide) (fun _ => rfl) fun m a b => congrArg m.bytes ?and,
    turnsTwo_of_binary (by decide) (fun _ => rfl) fun m a b => congrArg m.bytes ?ora,
    turnsTwo_of_binary (by decide) (fun _ => rfl) fun m a b => congrArg m.bytes ?eor⟩
  case and => exact BitVec.eq_of_getLsbD_eq fun i h => by simp [h]
  case ora => exact BitVec.eq_of_getLsbD_eq fun i h => by simp [h]
  case eor => exact BitVec.eq_of_getLsbD_eq fun i h => by simp [h]

/-! ### DIV -/

/-- Where the pops of an instruction leave the active stack if it pops two items (10_state.md R18, R19). -/
theorem Inside.pop_two {m : Mode} {s : State} {base : List Byte} {a b : Word} (ready : s.Ready) (fitsA : m.Fits a)
    (fitsB : m.Fits b) (hc : s.content m.src = base ++ (m.bytes a ++ m.bytes b)) :
    ∃ t u, Machine.pop m m.src (s.begin m) = .ok b t ∧ Machine.pop m m.src t = .ok a u ∧
      Inside m s u base (m.left base (m.bytes a ++ m.bytes b)) := by
  obtain ⟨t, popB, popped⟩ := Inside.pop_first ready fitsB (hc.trans (List.append_assoc _ _ _).symm)
  obtain ⟨u, popA, both⟩ := popped.pop fitsA
  exact ⟨t, u, popB, popA, both⟩

/-- After its pops DIV looks at the divisor, and pushes the quotient if that is not 0 (47_arithmetic_bitwise.md
R164). -/
theorem bodyOf_div {m : Mode} {s t u : State} {a b : Word} (popB : pop m m.src (s.begin m) = .ok b t)
    (popA : pop m m.src t = .ok a u) : bodyOf 0 .div m (s.begin m) =
      (if b = 0 then raise .divisionByZero else push m m.src (BitVec.ofNat 16 (a.toNat / b.toNat))) u := by
  rw [← BitVec.udiv_def, ← BitVec.udiv_eq]
  exact (bind_ok popB).trans (bind_ok popA)

/-- Settles O44: with a divisor that is not 0 what follows the pops of DIV is the push of the quotient. -/
theorem divPushesTheUnsignedQuotient : Obligations.DivPushesTheUnsignedQuotient := by
  intro m s base a b ready fitsA fitsB nonzero hc room
  obtain ⟨t, u, popB, popA, both⟩ := Inside.pop_two ready fitsA fitsB hc
  have body := bodyOf_div popB popA
  rw [if_neg nonzero] at body
  exact completes_of_pushes ready (by decide) body both (.item _) (by rwa [Mode.bytes_length])

end Sys2Proof.Machine
end

section
/-! PROOFS. Shift (spec/48_shift.md R175): SFT pops its specification, a byte, then its item, and pushes the item
shifted. -/

namespace Sys2Proof.Machine

/-- The shifts on words are the shifts on unbounded numbers, modulo 2^16 (48_shift.md R175). -/
theorem shiftValue_eq (v : Word) (t : Byte) :
    shiftValue v t = BitVec.ofNat 16 (v.toNat / 2 ^ (t.toNat % 16) * 2 ^ (t.toNat / 16)) := by
  have right : (t &&& 0x0F#8).toNat = t.toNat % 16 :=
    (BitVec.toNat_and t 0x0F#8).trans (Nat.and_two_pow_sub_one_eq_mod t.toNat 4)
  have left : (t >>> 4).toNat = t.toNat / 16 := by
    rw [BitVec.toNat_ushiftRight, Nat.shiftRight_eq_div_pow]
  apply BitVec.eq_of_toNat_eq
  rw [shiftValue, BitVec.toNat_shiftLeft, BitVec.toNat_ushiftRight, right, left, Nat.shiftRight_eq_div_pow,
    Nat.shiftLeft_eq, BitVec.toNat_ofNat]

/-- Settles O47: what follows the pops of SFT is the push of the shifted item, cut to the operand width. -/
theorem sftShiftsRightThenLeft : Obligations.SftShiftsRightThenLeft := by
  intro m s base v t ready fits hc room
  obtain ⟨u, u', popT, popV, both⟩ := Inside.pop_byte_then_item ready fits hc
  rw [m.bytes_ofNat_mod, ← shiftValue_eq, ← m.bytes_trunc (shiftValue v t)]
  exact completes_of_pushes ready (by decide) ((bind_ok popT).trans (bind_ok popV)) both (.item _)
    (by rwa [Mode.bytes_length])

end Sys2Proof.Machine
end

section
/-! PROOFS. Pops and pushes counted (spec/60_exceptions.md R181, R182, R188): an instruction first pops items of its
widths from the active stack, and what follows pushes a fixed number of bytes on one stack, whatever was popped. -/

namespace Sys2Proof.Machine

/-! ### How far a body has popped -/

/-- The body that started in `s` has popped what lay on the active stack above its lowest `n` bytes, and has done
nothing else; in keep mode the popped bytes are still there. -/
def PoppedTo (m : Mode) (s t : State) (n : Nat) : Prop :=
  n ≤ (s.stack m.src).ptr ∧
    Inside m s t ((s.content m.src).take n) (m.left ((s.content m.src).take n) ((s.content m.src).drop n))

theorem left_take_drop (m : Mode) (c : List Byte) (n : Nat) :
    m.left (c.take n) (c.drop n) = if m.keep then c else c.take n := by rw [Mode.left, List.take_append_drop]

namespace PoppedTo

variable {m : Mode} {s t : State} {n w : Nat}

theorem start (ready : s.Ready) (m : Mode) : PoppedTo m s (s.begin m) (s.stack m.src).ptr := by
  refine ⟨Nat.le_refl _, ?_⟩
  rw [← Stack.content_length, ← State.content, List.take_length, List.drop_length]
  exact Inside.start ready m

theorem src_ptr (popped : PoppedTo m s t n) :
    (t.stack m.src).ptr = if m.keep then (s.stack m.src).ptr else n := by
  obtain ⟨le, at_⟩ := popped
  rw [at_.ptr, left_take_drop]
  split
  · exact Stack.content_length _
  · rw [List.length_take_of_le ((Stack.content_length _).symm ▸ le)]

/-- The `w` bytes that a next pop takes: popping just them goes on to `n`. -/
theorem next (popped : PoppedTo m s t (n + w)) : ∃ operand rest, operand.length = w ∧
    (s.content m.src).take (n + w) = (s.content m.src).take n ++ operand ∧
    Inside m s t ((s.content m.src).take n ++ operand) (m.left ((s.content m.src).take n ++ operand) rest) ∧
    ∀ u, Inside m s u ((s.content m.src).take n) (m.left ((s.content m.src).take n) (operand ++ rest)) →
      PoppedTo m s u n := by
  obtain ⟨le, at_⟩ := popped
  have len : (s.content m.src).length = (s.stack m.src).ptr := Stack.content_length _
  have taken : (s.content m.src).take (n + w) = (s.content m.src).take n ++ ((s.content m.src).drop n).take w :=
    List.take_add
  have dropped : (s.content m.src).drop n =
      ((s.content m.src).drop n).take w ++ (s.content m.src).drop (n + w) := by
    rw [← List.drop_drop, List.take_append_drop]
  refine ⟨_, _, List.length_take_of_le (by rw [List.length_drop]; omega), taken, taken ▸ at_, fun u at_u => ?_⟩
  rw [← dropped] at at_u
  exact ⟨by omega, at_u⟩

/-- The pop of an item, with the item. -/
theorem pop_item (popped : PoppedTo m s t (n + m.width)) : ∃ v u, m.Fits v ∧
    (s.content m.src).take (n + m.width) = (s.content m.src).take n ++ m.bytes v ∧
    pop m m.src t = .ok v u ∧ PoppedTo m s u n := by
  obtain ⟨operand, rest, len, taken, at_, goes⟩ := popped.next
  obtain ⟨v, fits, e⟩ := exists_top_item m len.ge
  rw [len, Nat.sub_self, List.take_zero, List.nil_append] at e
  subst e
  obtain ⟨u, pops, at_u⟩ := at_.pop fits
  exact ⟨v, u, fits, taken, pops, goes u at_u⟩

end PoppedTo

/-- From `s` to `t` the stack `id` was replaced, and nothing else changed. -/
def Replaces (id : StackId) (s t : State) : Prop := ∃ S, t = s.setStack id S

theorem Replaces.refl (id : StackId) (s : State) : Replaces id s s := ⟨_, (s.setStack_self id).symm⟩

theorem Replaces.trans (id : StackId) (s t u : State) : Replaces id s t → Replaces id t u → Replaces id s u := by
  rintro ⟨S, rfl⟩ ⟨T, rfl⟩
  exact ⟨T, s.setStack_setStack id S T⟩

theorem stackSteps_replaces (id : StackId) : StackSteps (Replaces id) id := .of_setStack fun _ S => ⟨S, rfl⟩

/-- The piece `x` pops `w` bytes from the active stack, or underflows and then removes nothing. -/
structure Pops {α : Type} (m : Mode) (w : Nat) (x : Body α) : Prop where
  enough : ∀ {s t : State} {n : Nat}, PoppedTo m s t (n + w) → ∃ v u, x t = .ok v u ∧ PoppedTo m s u n
  few : ∀ {s t : State} {n : Nat}, PoppedTo m s t n → n < w → x t = .error (.stackUnderflow m.src) t
  moves : Keeps (Replaces m.src) x

namespace Pops

variable {m : Mode}

theorem byte : Pops m 1 (pop8 m.src) where
  enough popped := by
    obtain ⟨operand, rest, len, -, at_, goes⟩ := popped.next
    obtain ⟨x, rfl⟩ := List.length_eq_one_iff.1 len
    obtain ⟨u, pops, at_u⟩ := at_.pop8
    exact ⟨x, u, pops, goes u at_u⟩
  few popped lt := popped.2.pop8_underflow ((List.length_take_le _ _).trans_lt lt)
  moves := .pop8 (Replaces.refl _) (stackSteps_replaces _).pop8

theorem word : Pops m 2 (pop16 m.src) where
  enough popped := by
    obtain ⟨operand, rest, len, -, at_, goes⟩ := popped.next
    obtain ⟨hi, lo, e⟩ := List.length_eq_two.1 len
    obtain ⟨v, rfl⟩ : ∃ v, operand = [hiByte v, loByte v] := ⟨wordOf hi lo, by simpa using e⟩
    obtain ⟨u, pops, at_u⟩ := at_.pop16
    exact ⟨v, u, pops, goes u at_u⟩
  few popped lt := popped.2.pop16_underflow ((List.length_take_le _ _).trans_lt lt)
  moves := .pop16 (Replaces.refl _) (stackSteps_replaces _).pop16

theorem item : Pops m m.width (pop m m.src) where
  enough popped := by
    obtain ⟨v, u, -, -, pops, goes⟩ := popped.pop_item
    exact ⟨v, u, pops, goes⟩
  few popped lt := popped.2.pop_underflow ((List.length_take_le _ _).trans_lt lt)
  moves := (stackSteps_replaces _).pop (Replaces.refl _) (Replaces.trans _) m

end Pops

/-- The body `x` first pops items of the widths `ws` from the active stack; what follows, whatever they were, is a
piece with the property `P`. -/
inductive PopsThen (m : Mode) (P : Body Unit → Prop) : List Nat → Body Unit → Prop
  | done {x : Body Unit} (rest : P x) : PopsThen m P [] x
  | pop {α : Type} {w : Nat} {ws : List Nat} {x : Body α} {f : α → Body Unit} (first : Pops m w x)
      (next : ∀ v, PopsThen m P ws (f v)) : PopsThen m P (w :: ws) (x >>= f)

namespace PopsThen

variable {m : Mode} {P : Body Unit → Prop} {ws : List Nat} {x : Body Unit}

/-- Where there is enough to pop, what follows runs after the pops (10_state.md R18, R19). -/
theorem enough (h : PopsThen m P ws x) {s t : State} {n : Nat} (popped : PoppedTo m s t n) (le : ws.sum ≤ n) :
    ∃ rest u, P rest ∧ x t = rest u ∧ PoppedTo m s u (n - ws.sum) := by
  induction h generalizing t n with
  | done rest => exact ⟨_, t, rest, rfl, popped⟩
  | @pop _ w ws _ _ first _ ih =>
    rw [List.sum_cons] at le ⊢
    obtain ⟨v, u, e, popped⟩ := first.enough (n := n - w) (by rwa [Nat.sub_add_cancel (by omega)])
    obtain ⟨rest, u', prop, e', popped⟩ := ih v popped (by omega)
    exact ⟨rest, u', prop, (bind_ok e).trans e', by rwa [← Nat.sub_sub]⟩

/-- Where there is not, the body underflows after the pops that still found enough (60_exceptions.md R182, R184). -/
theorem few (h : PopsThen m P ws x) {s t : State} {n : Nat} (popped : PoppedTo m s t n) (lt : n < ws.sum) :
    ∃ u, x t = .error (.stackUnderflow m.src) u ∧ PoppedTo m s u (n - takenBeforeUnderflow ws n) := by
  induction h generalizing t n with
  | done => exact absurd lt (Nat.not_lt_zero n)
  | @pop _ w ws _ _ first _ ih =>
    rw [List.sum_cons] at lt
    rw [takenBeforeUnderflow]
    split <;> rename_i fits
    · obtain ⟨v, u, e, popped⟩ := first.enough (n := n - w) (by rwa [Nat.sub_add_cancel fits])
      obtain ⟨u', e', popped⟩ := ih v popped (by omega)
      exact ⟨u', (bind_ok e).trans e', by rwa [← Nat.sub_sub]⟩
    · exact ⟨t, bind_error (first.few popped (Nat.lt_of_not_le fits)), popped⟩

/-- If what follows the pops cannot raise, a body that raises has changed the active stack only. -/
theorem raises (h : PopsThen m P ws x) (silent : ∀ rest, P rest → ∀ t c u, rest t ≠ .error c u) {s u : State}
    {c : Cause} (e : x s = .error c u) : Replaces m.src s u := by
  induction h generalizing s with
  | done rest => exact absurd e (silent _ rest _ _ _)
  | @pop _ _ _ x _ first _ ih =>
    cases ex : x s with
    | ok v t => exact Replaces.trans _ _ _ _ (first.moves.of_ok ex) (ih v ((bind_ok ex).symm.trans e))
    | error d t =>
      cases (bind_error ex).symm.trans e
      exact first.moves.of_error ex

end PopsThen

/-! ### What follows the pops -/

/-- The piece `x` answers a value and leaves the stack `id` alone. -/
def Quiet {α : Type} (id : StackId) (x : Body α) : Prop := ∀ t, ∃ v u, x t = .ok v u ∧ u.stack id = t.stack id

namespace Quiet

variable (id : StackId) (m : Mode)

theorem pure : Quiet id (pure ()) := fun _ => ⟨_, _, rfl, rfl⟩
theorem readPc : Quiet id readPc := fun _ => ⟨_, _, rfl, rfl⟩
theorem writePc (v : Word) : Quiet id (writePc v) := fun t => ⟨_, _, rfl, t.setPc_stack v id⟩
theorem jump (a : Word) : Quiet id (jump m a) := fun t => ⟨_, _, rfl, t.setPc_stack _ id⟩
theorem load (a : Word) : Quiet id (load m a) := fun _ => ⟨_, _, rfl, rfl⟩
theorem store (a v : Word) : Quiet id (store m a v) := fun t => ⟨_, _, rfl, by split <;> simp⟩
theorem readDevice (a : Byte) : Quiet id (readDevice a) := fun t => ⟨_, _, rfl, t.devRead_stack a id⟩
theorem writeDevice (a v : Byte) : Quiet id (writeDevice a v) := fun t => ⟨_, _, rfl, t.devWrite_stack a v id⟩

end Quiet

/-- The piece `x` pushes `n` bytes in all on the stack `id`, or overflows it if they have no room; it raises nothing
else. -/
structure Fills (id : StackId) (n : Nat) (x : Body Unit) : Prop where
  room : ∀ t, n = 0 ∨ (t.stack id).ptr + n ≤ 255 →
    ∃ u, x t = .ok () u ∧ (u.stack id).ptr = (t.stack id).ptr + n
  full : ∀ t, 0 < n → 255 < (t.stack id).ptr + n → ∃ u, x t = .error (.stackOverflow id) u

namespace Fills

variable {id : StackId} {m : Mode} {n k : Nat} {x y : Body Unit}

theorem byte (v : Byte) : Fills id 1 (push8 id v) where
  room t h := ⟨_, by simp only [push8, Stack.push8_of_room v (h.resolve_left one_ne_zero)]; rfl, by simp⟩
  full t _ h := ⟨t, push8_overflow v h⟩

theorem word (v : Word) : Fills id 2 (push16 id v) where
  room t h := ⟨_, by simp only [push16, Stack.push16_of_room v (h.resolve_left two_ne_zero)]; rfl, by simp⟩
  full t _ h := ⟨t, push16_overflow v h⟩

theorem item (v : Word) : Fills id m.width (push m id v) := by
  unfold Mode.width push
  split
  · exact word v
  · exact byte (loByte v)

theorem seq (hx : Fills id n x) (hy : Fills id k y) : Fills id (n + k) (x >>= fun _ => y) where
  room t h := by
    obtain ⟨u, ex, first⟩ := hx.room t (by omega)
    obtain ⟨u', ey, second⟩ := hy.room u (by omega)
    exact ⟨u', (bind_ok ex).trans ey, by omega⟩
  full t pos h := by
    by_cases fits : n = 0 ∨ (t.stack id).ptr + n ≤ 255
    · obtain ⟨u, ex, first⟩ := hx.room t fits
      obtain ⟨u', ey⟩ := hy.full u (by omega) (by omega)
      exact ⟨u', (bind_ok ex).trans ey⟩
    · obtain ⟨u, ex⟩ := hx.full t (by omega) (by omega)
      exact ⟨u, bind_error ex⟩

theorem nothing (h : Quiet id x) : Fills id 0 x where
  room t _ := by
    obtain ⟨_, u, e, same⟩ := h t
    exact ⟨u, e, congrArg Stack.ptr same⟩
  full _ pos := absurd pos (Nat.lt_irrefl 0)

theorem after {α : Type} {x : Body α} {f : α → Body Unit} (hx : Quiet id x) (hf : ∀ v, Fills id n (f v)) :
    Fills id n (x >>= f) where
  room t h := by
    obtain ⟨v, u, e, same⟩ := hx t
    rw [bind_ok e, ← same]
    exact (hf v).room u (same ▸ h)
  full t pos h := by
    obtain ⟨v, u, e, same⟩ := hx t
    rw [bind_ok e]
    exact (hf v).full u pos (same ▸ h)

/-- A piece that pushes nothing does not raise. -/
theorem silent (h : Fills id 0 x) (t : State) (c : Cause) (u : State) : x t ≠ .error c u := by
  obtain ⟨v, e, -⟩ := h.room t (.inl rfl)
  rw [e]
  exact fun he => nomatch he

end Fills

/-- Every instruction pops items of its widths, and but for DIV then pushes its number of bytes on the stack it
pushes on (60_exceptions.md R188). -/
theorem popsThen_bodyOf (lit : Word) (b : Base) (m : Mode) :
    PopsThen m (fun rest => b ≠ .div → Fills (pushedOn b m) (bytesPushed b m) rest) (popWidths b m)
      (bodyOf lit b m) := by
  have item := fun v => Fills.item (id := m.src) (m := m) v
  have two := fun v w => two_mul m.width ▸ (item v).seq (item w)
  have triple : m.width + (m.width + m.width) = 3 * m.width := by omega
  have three := fun u v w => triple ▸ (item u).seq ((item v).seq (item w))
  have bin : ∀ {g : Word → Word → Word} {Q : Prop},
      PopsThen m (fun rest => Q → Fills m.src m.width rest) [m.width, m.width] (binary g m) :=
    .pop .item fun _ => .pop .item fun _ => .done fun _ => item _
  have cmp : ∀ {g : Word → Word → Bool} {Q : Prop},
      PopsThen m (fun rest => Q → Fills m.src 1 rest) [m.width, m.width] (compareItems g m) :=
    .pop .item fun _ => .pop .item fun _ => .done fun _ => .byte _
  cases b with
  | lit => exact .done fun _ => (item _).seq (.after (.readPc _) fun _ => .nothing (.writePc _ _))
  | inc => exact .pop .item fun _ => .done fun _ => item _
  | pop => exact .pop .item fun _ => .done fun _ => .nothing (.pure _)
  | dup => exact .pop .item fun _ => .done fun _ => two _ _
  | nip => exact .pop .item fun _ => .pop .item fun _ => .done fun _ => item _
  | swp => exact .pop .item fun _ => .pop .item fun _ => .done fun _ => two _ _
  | ovr => exact .pop .item fun _ => .pop .item fun _ => .done fun _ => three _ _ _
  | rot => exact .pop .item fun _ => .pop .item fun _ => .pop .item fun _ => .done fun _ => three _ _ _
  | equ => exact cmp
  | neq => exact cmp
  | gth => exact cmp
  | lth => exact cmp
  | jmp => exact .pop .item fun _ => .done fun _ => .nothing (.jump _ _ _)
  | jcn =>
    refine .pop .item fun _ => .pop .byte fun c => .done fun _ => .nothing ?_
    split
    · exact .jump _ _ _
    · exact .pure _
  | jsr =>
    exact .pop .item fun _ => .done fun _ => .after (.readPc _) fun _ =>
      (Fills.word _).seq (.nothing (.jump _ _ _))
  | sth => exact .pop .item fun _ => .done fun _ => .item _
  | ldz => exact .pop .byte fun _ => .done fun _ => .after (.load _ _ _) fun _ => item _
  | stz => exact .pop .byte fun _ => .pop .item fun _ => .done fun _ => .nothing (.store _ _ _ _)
  | ldr => exact .pop .byte fun _ => .done fun _ => .after (.readPc _) fun _ => .after (.load _ _ _) fun _ => item _
  | str =>
    exact .pop .byte fun _ => .pop .item fun _ => .done fun _ => .after (.readPc _) fun _ =>
      .nothing (.store _ _ _ _)
  | lda => exact .pop .word fun _ => .done fun _ => .after (.load _ _ _) fun _ => item _
  | sta => exact .pop .word fun _ => .pop .item fun _ => .done fun _ => .nothing (.store _ _ _ _)
  | dei =>
    refine .pop .byte fun a => .done fun _ => ?_
    show Fills m.src m.width _
    unfold Mode.width
    split
    · exact .after (.readDevice _ _) fun _ => .after (.readDevice _ _) fun _ => .word _
    · exact .after (.readDevice _ _) fun _ => .byte _
  | deo =>
    refine .pop .byte fun a => .pop .item fun v => .done fun _ => ?_
    split
    · exact .after (.writeDevice _ _ _) fun _ => .nothing (.writeDevice _ _ _)
    · exact .nothing (.writeDevice _ _ _)
  | add => exact bin
  | sub => exact bin
  | mul => exact bin
  | div => exact .pop .item fun _ => .pop .item fun _ => .done fun notDiv => absurd rfl notDiv
  | and => exact bin
  | ora => exact bin
  | eor => exact bin
  | sft => exact .pop .byte fun _ => .pop .item fun _ => .done fun _ => item _

end Sys2Proof.Machine
end

section
/-! PROOFS. Exceptions (spec/60_exceptions.md R180 to R188): which fault an instruction raises, and what a fault
leaves. -/

namespace Sys2Proof

theorem Mode.fits_zero (m : Mode) : m.Fits 0 := by
  unfold Mode.Fits Mode.trunc; split <;> rfl

/-- An item is known by its bytes. -/
theorem Mode.bytes_inj {m : Mode} {v w : Word} (fitsV : m.Fits v) (fitsW : m.Fits w)
    (h : m.bytes v = m.bytes w) : v = w := by
  unfold Mode.bytes at h
  split at h <;> rename_i short
  · obtain ⟨hi, lo⟩ : Machine.hiByte v = Machine.hiByte w ∧ Machine.loByte v = Machine.loByte w := by
      simpa using h
    rw [← Machine.wordOf_hiByte_loByte v, hi, lo, Machine.wordOf_hiByte_loByte]
  · have lo : Machine.loByte v = Machine.loByte w := by simpa using h
    rw [← fitsV, ← fitsW, Mode.trunc, Mode.trunc, if_neg short, if_neg short, lo]

end Sys2Proof

namespace Sys2Proof.Machine

/-! ### The rows of the table of faults -/

section

variable (b : Base) (m : Mode) (s : State)

/-- The active stack holds fewer bytes than are popped. -/
def PopsTooMany : Prop := (s.stack m.src).ptr < bytesPopped b m

/-- The instruction is a DIV and its divisor, the top item, is 0. -/
def DividesByZero : Prop := b = .div ∧ ∃ base, s.content m.src = base ++ m.bytes 0

/-- The stack pushed on has no room for what is pushed. -/
def PushesTooMany : Prop := 255 < depthBeforePushes b m s + bytesPushed b m

/-- The status after an instruction that started running (60_exceptions.md R188). -/
inductive FaultRow : Status → Prop
  | underflow (few : PopsTooMany b m s) : FaultRow (.faulted (.stackUnderflow m.src))
  | byZero (enough : ¬PopsTooMany b m s) (zero : DividesByZero b m s) : FaultRow (.faulted .divisionByZero)
  | overflow (enough : ¬PopsTooMany b m s) (notZero : ¬DividesByZero b m s) (full : PushesTooMany b m s) :
      FaultRow (.faulted (.stackOverflow (pushedOn b m)))
  /-- An instruction that pushes nothing completes even on a stack that holds more bytes than it has room for, as no
  state that meets the invariant does. -/
  | completes (enough : ¬PopsTooMany b m s) (notZero : ¬DividesByZero b m s)
      (room : bytesPushed b m = 0 ∨ ¬PushesTooMany b m s) : FaultRow .running

end

section

variable {b : Base} {m : Mode} {s t : State}

theorem pushedOn_eq (b : Base) (m : Mode) : pushedOn b m = m.src ∨ pushedOn b m = m.dst := by
  cases b <;> simp [pushedOn]

/-- Where the pops leave the stack pushed on (60_exceptions.md R188). -/
theorem PoppedTo.ptr_pushedOn (popped : PoppedTo m s t ((s.stack m.src).ptr - bytesPopped b m)) :
    (t.stack (pushedOn b m)).ptr = depthBeforePushes b m s := by
  have src := popped.src_ptr
  have dst := congrArg Stack.ptr popped.2.dst
  unfold depthBeforePushes
  rcases pushedOn_eq b m with on | on <;> rw [on]
  · rw [src]
    cases m.keep <;> simp
  · rw [dst, if_neg fun h => m.dst_ne_src h.1]

/-- The divisor, the top item, decides whether DIV divides by zero. -/
theorem dividesByZero_div_iff {front : List Byte} {d : Word} (fits : m.Fits d)
    (hc : s.content m.src = front ++ m.bytes d) : DividesByZero .div m s ↔ d = 0 := by
  constructor
  · rintro ⟨-, base, hz⟩
    exact Mode.bytes_inj fits m.fits_zero (List.append_inj_right' (hc.symm.trans hz) (by simp))
  · rintro rfl
    exact ⟨rfl, front, hc⟩

/-- After its pops an instruction divides by zero, or only pushes. -/
theorem bodyOf_after_pops (lit : Word) (ready : s.Ready) (enough : ¬PopsTooMany b m s) :
    ∃ rest u, bodyOf lit b m (s.begin m) = rest u ∧ PoppedTo m s u ((s.stack m.src).ptr - bytesPopped b m) ∧
      (DividesByZero b m s → rest u = .error .divisionByZero u) ∧
      (¬DividesByZero b m s → Fills (pushedOn b m) (bytesPushed b m) rest) := by
  have start := PoppedTo.start ready m
  have enough := Nat.le_of_not_lt enough
  by_cases div : b = .div
  · subst div
    have width : bytesPopped .div m = m.width + m.width := rfl
    obtain ⟨n, e⟩ : ∃ n, (s.stack m.src).ptr = n + m.width + m.width :=
      ⟨(s.stack m.src).ptr - (m.width + m.width), by omega⟩
    have whole : (s.content m.src).take (n + m.width + m.width) = s.content m.src :=
      List.take_of_length_le ((Stack.content_length _).trans e).le
    obtain ⟨d, t, fits, hc, popD, popped⟩ := (e ▸ start).pop_item
    obtain ⟨a, u, -, -, popA, both⟩ := popped.pop_item
    have zero := dividesByZero_div_iff fits (whole.symm.trans hc)
    refine ⟨_, u, bodyOf_div popD popA, (by omega : (s.stack m.src).ptr - bytesPopped .div m = n) ▸ both,
      fun byZero => ?_, fun notZero => ?_⟩
    · rw [if_pos (zero.1 byZero), raise_run]
    · rw [if_neg (mt zero.2 notZero)]
      exact .item _
  · obtain ⟨rest, u, fills, e, popped⟩ := (popsThen_bodyOf lit b m).enough start enough
    exact ⟨rest, u, e, popped, fun zero => absurd zero.1 div, fun _ => fills div⟩

end

section

variable {i : Instr} {s t u : State}

theorem exec_of_ok (hi : i ≠ .brk) (e : bodyOf i.literal i.base i.mode (s.begin i.mode) = .ok () u)
    (h : exec i s = .next t) : t = u.clearKeep :=
  Host.Outcome.next.inj (h.symm.trans ((exec_eq_runBody hi s).trans (runBody_ok e)))

theorem exec_of_error {c : Cause} (hi : i ≠ .brk) (e : bodyOf i.literal i.base i.mode (s.begin i.mode) = .error c u)
    (h : exec i s = .next t) : t = u.takeFault c :=
  Host.Outcome.next.inj (h.symm.trans ((exec_eq_runBody hi s).trans (runBody_error e)))

/-- A body leaves the status alone (60_exceptions.md R184). -/
theorem exec_status_of_ok (hi : i ≠ .brk) (e : bodyOf i.literal i.base i.mode (s.begin i.mode) = .ok () u)
    (h : exec i s = .next t) : t.status = s.status := by
  rw [exec_of_ok hi e h, State.clearKeep_status, ← s.begin_status i.mode]
  exact (keeps_field (f := State.status)).of_ok e

/-- Every instruction but BRK ends in one of the rows. -/
theorem exec_faultRow (ready : s.Ready) (hi : i ≠ .brk) (h : exec i s = .next t) :
    FaultRow i.base i.mode s t.status := by
  by_cases few : PopsTooMany i.base i.mode s
  · obtain ⟨u, e, -⟩ := (popsThen_bodyOf i.literal i.base i.mode).few (.start ready _) few
    rw [exec_of_error hi e h]
    exact .underflow few
  obtain ⟨rest, u, e, popped, raises, fills⟩ := bodyOf_after_pops i.literal ready few
  by_cases zero : DividesByZero i.base i.mode s
  · rw [exec_of_error hi (e.trans (raises zero)) h]
    exact .byZero few zero
  have depth := popped.ptr_pushedOn
  by_cases room : bytesPushed i.base i.mode = 0 ∨ ¬PushesTooMany i.base i.mode s
  · obtain ⟨u', e', -⟩ := (fills zero).room u (room.imp_right fun le => depth ▸ Nat.le_of_not_lt le)
    rw [exec_status_of_ok hi (e.trans e') h, ready.1]
    exact .completes few zero room
  · obtain ⟨nonzero, full⟩ := not_or.1 room
    have full := not_not.1 full
    obtain ⟨u', e'⟩ := (fills zero).full u (Nat.pos_of_ne_zero nonzero) (depth ▸ full)
    rw [exec_of_error hi (e.trans e') h]
    exact .overflow few zero full

end

/-- Under the invariant the rows are the table: each status is that of one row only. -/
theorem FaultRow.table {b : Base} {m : Mode} {s : State} {st : Status} (row : FaultRow b m s st) (bounded : s.Bounded) :
    (st = .faulted (.stackUnderflow m.src) ↔ PopsTooMany b m s) ∧
    (st = .faulted .divisionByZero ↔ ¬PopsTooMany b m s ∧ DividesByZero b m s) ∧
    (st = .faulted (.stackOverflow (pushedOn b m)) ↔
      ¬PopsTooMany b m s ∧ ¬DividesByZero b m s ∧ PushesTooMany b m s) ∧
    (st = .running ↔ ¬PopsTooMany b m s ∧ ¬DividesByZero b m s ∧ ¬PushesTooMany b m s) := by
  cases row with
  | underflow few => simp [few]
  | byZero enough zero => simp [enough, zero]
  | overflow enough notZero full => simp [enough, notZero, full]
  | completes enough notZero room =>
    have depth : depthBeforePushes b m s ≤ 255 := by
      unfold depthBeforePushes
      split
      · exact (Nat.sub_le _ _).trans (bounded.stack _).ptr
      · exact (bounded.stack _).ptr
    have room : ¬PushesTooMany b m s := by
      unfold PushesTooMany at room ⊢
      omega
    simp [enough, notZero, room]

/-- Settles O19: BRK halts, and every other instruction ends in one of the rows. -/
theorem faultTableIsExact : Obligations.FaultTableIsExact := by
  refine ⟨fun s => ⟨_, rfl, rfl⟩, fun i s hi running inv => ?_⟩
  obtain ⟨bounded, keepW, keepR⟩ := s.inv_iff.1 inv
  obtain ⟨t, h⟩ := exec_is_next i s
  exact ⟨t, h, (exec_faultRow ⟨running, keepW, keepR⟩ hi h).table bounded⟩

/-! ### What a fault leaves -/

section

variable {i : Instr} {s t : State} {c : Cause}

theorem ne_brk_of_faulted (h : exec i s = .next t) (faulted : t.status = .faulted c) : i ≠ .brk := by
  rintro rfl
  cases h
  exact nomatch faulted

/-- An instruction that raised changed only the active stack if it is one that pushes nothing: its stores and device
writes come after everything that can raise (60_exceptions.md R184). -/
theorem exec_faulted_sameStores (running : s.status = .running) (h : exec i s = .next t)
    (faulted : t.status = .faulted c) (noPush : bytesPushed i.base i.mode = 0) : s.SameStores t := by
  have hi := ne_brk_of_faulted h faulted
  have notDiv : i.base ≠ .div := fun div => by
    rw [div] at noPush
    exact i.mode.width_pos.ne' noPush
  rcases exec_next hi h with ⟨u, e, -⟩ | ⟨d, u, e, rfl⟩
  · have same := exec_status_of_ok hi e h
    rw [faulted, running] at same
    cases same
  · obtain ⟨S, rfl⟩ := (popsThen_bodyOf i.literal i.base i.mode).raises
      (fun rest fills => Fills.silent (noPush ▸ fills notDiv)) e
    simp [State.SameStores]

/-- With the reference host a device read does not move the other host's state either (20_memory.md R55). -/
theorem exec_hostState_reference (reference : s.binding = .reference) (hi : i ≠ .brk) (h : exec i s = .next t)
    (notDeo : i.base ≠ .deo) : t.hostState = s.hostState := by
  have body : Keeps (fun s t => s.binding = .reference → t.binding = .reference ∧ t.hostState = s.hostState)
      (bodyOf i.literal i.base i.mode) :=
    keeps_bodyOf (fun _ bound => ⟨bound, rfl⟩)
      (fun _ _ _ first second bound =>
        have ⟨bound, same⟩ := first bound
        (second bound).imp_right (Eq.trans · same))
      (.of_setStack fun _ _ bound => by simp [bound]) (fun _ => .of_setStack fun _ _ bound => by simp [bound])
      (fun _ _ _ bound => ⟨bound, rfl⟩) (fun _ _ _ _ bound => ⟨bound, rfl⟩)
      (fun _ _ _ bound => by rw [State.devRead_reference bound]; exact ⟨bound, rfl⟩) (fun deo => absurd deo notDeo)
  obtain ⟨u, hu, ends⟩ := exec_keeps hi body h
  have same := (hu ((s.begin_binding _).trans reference)).2.trans (s.begin_hostState _)
  rcases ends with rfl | ⟨c, rfl⟩ <;> exact same

end

/-- Settles O20: an instruction that stores or writes a device raises only at its pops, and any other leaves memory,
the device surface and the console output alone anyway. -/
theorem faultKeepsMemoryDevicesAndPc : Obligations.FaultKeepsMemoryDevicesAndPc := by
  intro i s t c running h faulted
  obtain ⟨keepW, keepR⟩ := exec_keep_off (ne_brk_of_faulted h faulted) h
  have pc := exec_faulted_pc running h faulted
  by_cases noPush : bytesPushed i.base i.mode = 0
  · obtain ⟨mem, dev, out, binding, host, pending⟩ := exec_faulted_sameStores running h faulted noPush
    exact ⟨pc, mem, dev, out, binding, pending, fun _ => host, keepW, keepR⟩
  · have notStore : i.base ∉ [Base.stz, .str, .sta] := fun store => by
      simp only [List.mem_cons, List.not_mem_nil, or_false] at store
      rcases store with b | b | b <;> exact noPush (by rw [b]; rfl)
    have notDeo : i.base ≠ .deo := fun deo => noPush (by rw [deo]; rfl)
    refine ⟨pc, exec_mem h notStore, exec_dev h notDeo, exec_out h notDeo, exec_binding h, exec_pending h,
      fun host => ?_, keepW, keepR⟩
    rcases host with notDei | reference
    · exact exec_hostState h (by simp [notDei, notDeo])
    · exact exec_hostState_reference reference (ne_brk_of_faulted h faulted) h notDeo

/-- Settles O21: by where the pops stand when one of them fails. -/
theorem underflowLeavesTheEarlierPopsDone : Obligations.UnderflowLeavesTheEarlierPopsDone := by
  intro i s t S ready h faulted
  have hi := ne_brk_of_faulted h faulted
  have row := exec_faultRow ready hi h
  rw [faulted] at row
  cases row with
  | underflow few =>
    obtain ⟨u, e, -, at_⟩ := (popsThen_bodyOf i.literal i.base i.mode).few (.start ready _) few
    rw [exec_of_error hi e h]
    obtain ⟨content, dst, -⟩ := srcBecomes_takeFault ready (.stackUnderflow i.mode.src) at_.pic at_.dst
    rw [left_take_drop] at content
    exact ⟨rfl, dst, content⟩

/-! ### DIV by 0 -/

/-- Settles O45: with divisor 0 what follows the pops of DIV is the raise, and only the row of DIV by 0 has that
cause. -/
theorem divByZeroFaultsAfterBothPops : Obligations.DivByZeroFaultsAfterBothPops := by
  refine ⟨fun m s base a ready fits hc => ?_, fun i s t ready h faulted => ?_⟩
  · obtain ⟨t, u, popZero, popA, both⟩ := Inside.pop_two ready fits m.fits_zero hc
    have body := bodyOf_div popZero popA
    rw [if_pos rfl] at body
    obtain ⟨t, e, becomes, pc, status, same⟩ := faults_of_inside ready (by decide) body both
    exact ⟨t, e, status, becomes, pc, same⟩
  · have row := exec_faultRow ready (ne_brk_of_faulted h faulted) h
    rw [faulted] at row
    cases row with
    | byZero _ zero => exact zero

end Sys2Proof.Machine
end

section
/-! PROOFS. The host's transactions (spec/60_exceptions.md R185, R190 to R192, R196; spec/70_reset_and_hazards.md
R210 to R213): when each is legal, what it does, and the start-up. -/

namespace Sys2Proof.Machine

/-! ### Legality -/

/-- Settles O36: each transaction but Reset asks first whether the core is HALTED. -/
theorem otherTransactionsNeedAHaltedCore : Obligations.OtherTransactionsNeedAHaltedCore := by
  intro s c notHalted notReset
  cases c with
  | reset n => exact absurd rfl (notReset n)
  | loadImage img => exact if_pos notHalted
  | run a => exact if_pos notHalted
  | injectEvent d payload => exact if_pos notHalted

theorem transact_run {s : State} (halted : s.status = .halted) (a : Word) :
    transact (.run a) s = .next (s.startRun a) := if_neg (not_not_intro halted)

theorem transact_injectEvent {s : State} (halted : s.status = .halted) (d : BitVec 4)
    (payload : List (Byte × Byte)) : transact (.injectEvent d payload) s = .next (s.injectEvent d payload) :=
  if_neg (not_not_intro halted)

/-- A FAULTED core takes no step if the host's next transaction is no Reset (60_exceptions.md R185). -/
theorem step_faulted {s : State} {c : Cause} (faulted : s.status = .faulted c)
    (noReset : ∀ n rest, s.pending ≠ .reset n :: rest) : step s = .fault (.terminal c) := by
  have notDue : s.resetDue = false := by
    rw [Bool.eq_false_iff]
    intro due
    obtain ⟨n, rest, pending, -⟩ := s.resetDue_iff.1 due
    exact noReset n rest pending
  simp [step, notDue, faulted, faultedTurn]

/-- Settles O22: the step of a FAULTED core is the stop, or the Reset. -/
theorem faultedIsTerminal : Obligations.FaultedIsTerminal :=
  fun _ _ faulted => ⟨step_faulted faulted, fun _ _ pending =>
    ⟨_, step_reset pending (.inr (by simp [faulted])), rfl, rfl⟩⟩

/-! ### Run -/

/-- Settles O34: by the transaction, and the halt of the step after it. -/
theorem runStartsAtTheAddressGiven : Obligations.RunStartsAtTheAddressGiven := by
  refine fun s a halted => ⟨transact_run halted a, fun test notDue => ?_⟩
  rw [step_halts rfl notDue test, State.letPass_frame]
  simp [State.halt, halted]

/-! ### Events -/

/-- The bytes of the device surface after an event's payload is stored (60_exceptions.md R191). -/
theorem State.devByte_writePayload (s : State) (payload : List (Byte × Byte)) (x : Byte) :
    (s.writePayload payload).devByte x = payloadByte payload x (s.devByte x) := by
  induction payload generalizing s with
  | nil => rfl
  | cons c rest ih => rw [State.writePayload, ih, State.devByte_setDevByte, payloadByte]

/-- A slot begins at 16 times its number (20_memory.md R54). -/
theorem slotOrigin_eq : ∀ d : BitVec 4, slotOrigin d &&& 0xF0#8 = BitVec.ofNat 8 (16 * d.toNat) := by decide

/-- The vector of a slot is the word at its first two addresses (20_memory.md R54). -/
theorem State.devVector_slotOrigin (s : State) (d : BitVec 4) : s.devVector (slotOrigin d) =
    wordOf (s.devByte (BitVec.ofNat 8 (16 * d.toNat))) (s.devByte (BitVec.ofNat 8 (16 * d.toNat + 1))) := by
  rw [State.devVector, slotOrigin_eq, BitVec.ofNat_add]
  rfl

/-- An event is its payload, and starts a run at the slot's vector unless that is 0 (60_exceptions.md R191). -/
theorem State.injectEvent_eq (s : State) (d : BitVec 4) (payload : List (Byte × Byte)) :
    s.injectEvent d payload =
      if (s.writePayload payload).devVector (slotOrigin d) = 0 then s.writePayload payload
      else (s.writePayload payload).startRun ((s.writePayload payload).devVector (slotOrigin d)) := ite_not _ _ _

/-- Settles O35: the event is its stores on the device surface, and then the start of a run or nothing. -/
theorem eventStoresItsPayloadAndRunsTheVector : Obligations.EventStoresItsPayloadAndRunsTheVector := by
  intro s d payload halted
  have stored := s.devByte_writePayload payload
  have frame := s.writePayload_frame payload
  have event := s.injectEvent_eq d payload
  rw [State.devVector_slotOrigin] at event
  refine ⟨_, transact_injectEvent halted d payload, ?_⟩
  split at event <;> rename_i vector <;> rw [event]
  · exact ⟨stored, frame.trans (if_pos vector).symm⟩
  · exact ⟨stored, (congrArg (State.startRun · _) frame).trans (if_neg vector).symm⟩

/-! ### Reset -/

/-- The reset values do not depend on the host's side, which Reset leaves (70_reset_and_hazards.md R210). -/
theorem coreIsReset_resetCore (s : State) : s.resetCore.CoreIsReset := resetValues

/-- A step at which a Reset is due is that Reset (60_exceptions.md R196). -/
theorem step_resets {s : State} {n : Nat} {rest : List HostCommand} (pending : s.pending = .reset n :: rest)
    (due : n = 0 ∨ s.status ≠ .running) : ∃ t, step s = .next t ∧ t.CoreIsReset ∧ t.pending = rest :=
  ⟨_, step_reset pending due, resetValues, rfl⟩

/-- While a Reset waits, a step of a running core answers a next state, in which the Reset is one step nearer. -/
theorem step_lets_pass {s : State} {n : Nat} {rest : List HostCommand} (running : s.status = .running)
    (pending : s.pending = .reset (n + 1) :: rest) : ∃ t, step s = .next t ∧ t.pending = .reset n :: rest := by
  have notDue : s.resetDue = false := by simp [State.resetDue, pending, running]
  have nearer := State.letPass_reset pending
  rw [step_running running notDue]
  split
  · exact ⟨_, rfl, nearer⟩
  · obtain ⟨t, run⟩ := exec_is_next s.fetch s.letPass
    exact ⟨t, run, (exec_pending run).trans nearer⟩

/-- Within `n + 1` steps from `s` the core is reset, and the host then has `rest` yet to do. -/
def ResetWithin (n : Nat) (s : State) (rest : List HostCommand) : Prop :=
  ∃ k t, k ≤ n ∧ core.run (k + 1) s = .next t ∧ t.CoreIsReset ∧ t.pending = rest

theorem ResetWithin.of_step {s : State} {rest : List HostCommand} (n : Nat)
    (h : ∃ t, step s = .next t ∧ t.CoreIsReset ∧ t.pending = rest) : ResetWithin n s rest := by
  obtain ⟨t, e, isReset⟩ := h
  exact ⟨0, t, Nat.zero_le n, core_run_succ 0 e, isReset⟩

theorem ResetWithin.of_step_before {n : Nat} {s u : State} {rest : List HostCommand} (e : step s = .next u)
    (h : ResetWithin n u rest) : ResetWithin (n + 1) s rest := by
  obtain ⟨k, t, le, run, isReset⟩ := h
  exact ⟨k + 1, t, Nat.succ_le_succ le, (core_run_succ (k + 1) e).trans run, isReset⟩

/-- A Reset that waits is made after at most as many steps as the host lets pass, whatever the core runs
(70_reset_and_hazards.md R210). -/
theorem resetWithin_of_pending {n : Nat} {s : State} {rest : List HostCommand}
    (pending : s.pending = .reset n :: rest) : ResetWithin n s rest := by
  induction n generalizing s with
  | zero => exact .of_step 0 (step_resets pending (.inl rfl))
  | succ n ih =>
    by_cases running : s.status = .running
    · obtain ⟨u, e, nearer⟩ := step_lets_pass running pending
      exact .of_step_before e (ih nearer)
    · exact .of_step (n + 1) (step_resets pending (.inr running))

/-- Settles O32: by the transaction, the step at which it is due, and the steps before that. -/
theorem resetIsLegalInEveryState : Obligations.ResetIsLegalInEveryState :=
  ⟨fun s _ => ⟨_, rfl, coreIsReset_resetCore s⟩, fun _ _ _ pending due => step_resets pending due.symm,
    fun _ _ _ => resetWithin_of_pending⟩

/-! ### The start-up -/

/-- A step of a HALTED core is the host's next transaction (60_exceptions.md R189). -/
theorem step_halted {s : State} {c : HostCommand} {rest : List HostCommand} (halted : s.status = .halted)
    (pending : s.pending = c :: rest) : step s = transact c (s.withPending rest) := by
  have turn : step s = hostTurn s := by
    rw [step, halted]
    exact ite_self _
  rw [turn, hostTurn, pending]
  rfl

section

variable (s : State) (a : Word) (l : List Byte)

@[simp] theorem State.loadBytes_status : (s.loadBytes a l).status = s.status := by rw [State.loadBytes_frame]
@[simp] theorem State.loadBytes_pending : (s.loadBytes a l).pending = s.pending := by rw [State.loadBytes_frame]

end

section

variable {s : State} {rest : List HostCommand}

theorem step_loadImage {img : List Byte} (halted : s.status = .halted) (pending : s.pending = .loadImage img :: rest)
    (fits : img.length ≤ imageMaxLength) : step s = .next ((s.withPending rest).loadBytes imageOrigin img) :=
  (step_halted halted pending).trans ((transact_loadImage (s := s.withPending rest) halted img).trans (if_pos fits))

theorem step_run {a : Word} (halted : s.status = .halted) (pending : s.pending = .run a :: rest) :
    step s = .next ((s.withPending rest).startRun a) :=
  (step_halted halted pending).trans (transact_run (s := s.withPending rest) halted a)

/-- The start-up in three steps: the Reset, the image, the run (70_reset_and_hazards.md R213). -/
theorem run_bootCommands {img : List Byte} (pending : s.pending = bootCommands img ++ rest)
    (fits : img.length ≤ imageMaxLength) :
    core.run 3 s = .next ((((s.resetCore.withPending (.run imageOrigin :: rest)).loadBytes imageOrigin img).withPending
      rest).startRun imageOrigin) := by
  have reset : step s = .next (s.resetCore.withPending (.loadImage img :: .run imageOrigin :: rest)) :=
    step_reset pending (.inl rfl)
  rw [core_run_succ 2 reset, core_run_succ 1 (step_loadImage rfl rfl fits)]
  exact core_run_succ 0 (step_run (State.loadBytes_status _ _ _) (State.loadBytes_pending _ _ _))

end

/-- Settles O37: by the three steps, and the bytes of memory after an image is loaded. -/
theorem bootLoadsTheImageAndRunsIt : Obligations.BootLoadsTheImageAndRunsIt := by
  intro s img rest pending fits
  have memory := State.memRead8_loadImage (s.resetCore.withPending (.run imageOrigin :: rest)) fits
  have run := run_bootCommands pending fits
  rw [State.loadBytes_frame] at run
  exact ⟨_, run, rfl, rfl, rfl, rfl, memory, fun _ => rfl, rfl, rfl⟩

end Sys2Proof.Machine
end
